-- ==== Sys2Proof/Word.lean ====
section
/-! DEFINITION. The widths of the block: a command word (R70) and the single byte every datum of the block is (R54). -/

namespace Sys2Proof

/-- A 16-bit command word, bit 0 least significant (R8, R70). -/
abbrev Word := BitVec 16

/-- A byte: a ROM word, a cell, a character code, a device address, a command byte (R54). -/
abbrev Byte := BitVec 8

/-- A 7-bit segment pattern, A = bit 6 down to G = bit 0 (R10), or its device-order image (R120). -/
abbrev Pattern := BitVec 7

end Sys2Proof
end

