-- ==== Sys2Proof/Syntax.lean ====
section
/-! DEFINITION. The ten commands of the opcode map (spec/opcode_table.json, R71) with their operands (R72). -/

namespace Sys2Proof

/-- One constructor per row of the opcode map, in the table's order. -/
inductive Instr where
  /-- 0x1000, the one-time startup (R210). -/
  | setup
  /-- 0x2000|b, set the orientation, `true` inverted (R211). -/
  | setinv (b : Bool)
  /-- 0x3000, enable auto-intensity (R191). -/
  | autoen
  /-- 0x4000|n, set the dimming level by hand (R190). -/
  | setint (n : BitVec 8)
  /-- 0x5000, blank the display buffer (R148). -/
  | clear
  /-- 0x6000|s, begin a print at start position s (R141). -/
  | pbegin (s : BitVec 2)
  /-- 0x7000|c, process one character of the print (R142). -/
  | pchar (c : BitVec 8)
  /-- 0x8000, end the print and return its count (R147). -/
  | pend
  /-- 0x9000, hand the frame to the transport (R170). -/
  | render
  /-- 0xA000, run the intensity controller once (R192). -/
  | astep
  deriving DecidableEq, Repr, Inhabited

end Sys2Proof
end

