-- ==== Sys2Proof/WellFormed.lean ====
section
/-! DEFINITION. Operand ranges. An `Instr` carries its operand in a type of the field's own width (R72), so every term of
it is in range; the source lines of the assembler (R76) carry plain numbers and bytes, so there the check refuses. -/

namespace Sys2Proof

/-- The operand as a number, 0 where the command has none (R72). -/
def Instr.operand : Instr → Nat
  | .setup => 0
  | .setinv b => b.toNat
  | .autoen => 0
  | .setint n => n.toNat
  | .clear => 0
  | .pbegin s => s.toNat
  | .pchar c => c.toNat
  | .pend => 0
  | .render => 0
  | .astep => 0

/-- One more than the largest operand the field holds (R72); 1 where there is no field. -/
def Instr.operandBound : Instr → Nat
  | .setup => 1
  | .setinv _ => 2
  | .autoen => 1
  | .setint _ => 256
  | .clear => 1
  | .pbegin _ => 4
  | .pchar _ => 256
  | .pend => 1
  | .render => 1
  | .astep => 1

/-- The operand fits its field. -/
def Instr.wellFormed (i : Instr) : Bool := decide (i.operand < i.operandBound)

/-- One print of a cycle: a start position and the bytes of its text (R77). -/
structure PrintSpec where
  start : Nat
  text : List Nat
  deriving DecidableEq, Repr

/-- One line of assembler source: a command (R76) or a pseudo-instruction (R77, R78), its operands as written. -/
inductive SourceLine where
  | setup
  | setinv (b : Nat)
  | autoen
  | setint (n : Nat)
  | clear
  | pbegin (s : Nat)
  | pchar (c : Nat)
  | pend
  | render
  | astep
  | print (p : PrintSpec)
  | update (ps : List PrintSpec)
  deriving DecidableEq, Repr

/-- A print's start position fits two bits (R72) and its text is a sequence of bytes (R77). -/
def PrintSpec.wellFormed (p : PrintSpec) : Bool := decide (p.start < 4) && p.text.all (fun c => decide (c < 256))

/-- "An operand out of its range is an assembly error, not a wrapped value" (R76). -/
def SourceLine.wellFormed : SourceLine → Bool
  | .setup => true
  | .setinv b => decide (b < 2)
  | .autoen => true
  | .setint n => decide (n < 256)
  | .clear => true
  | .pbegin s => decide (s < 4)
  | .pchar c => decide (c < 256)
  | .pend => true
  | .render => true
  | .astep => true
  | .print p => p.wellFormed
  | .update ps => ps.all PrintSpec.wellFormed

end Sys2Proof
end

