-- ==== Sys2Proof/Decode.lean ====
section
/-! DEFINITION. The decoder, total on all 65536 words (R75), and the encoder, both from the opcode map R71. A command
word arrives as one 16-bit unit (R54), so there is no byte order to decide. -/

namespace Sys2Proof

/-- Why a word is no command. -/
inductive DecodeError where
  /-- `op` is 0x0 or in 0xB..0xF (R74). -/
  | reservedOpcode
  /-- `op` is defined but a bit of `arg` outside the operand is not zero (R73). -/
  | reservedBits
  deriving DecidableEq, Repr

/-- w[15:12] (R70). -/
def opField (w : Word) : BitVec 4 := w.extractLsb' 12 4

/-- w[11:0] (R70). -/
def argField (w : Word) : BitVec 12 := w.extractLsb' 0 12

/-- `{op, arg}` (R70). -/
def wordOf (op : BitVec 4) (arg : BitVec 12) : Word := op ++ arg

/-- A command without operand: all of `arg` is reserved (R73). -/
def plainCommand (i : Instr) (arg : BitVec 12) : Except DecodeError Instr :=
  if arg = 0 then .ok i else .error .reservedBits

/-- The decoder (R70 to R75). -/
def decode (w : Word) : Except DecodeError Instr :=
  let arg := argField w
  match (opField w).toNat with
  | 0x1 => plainCommand .setup arg
  | 0x2 => if arg.extractLsb' 1 11 = 0 then .ok (.setinv (arg.getLsbD 0)) else .error .reservedBits
  | 0x3 => plainCommand .autoen arg
  | 0x4 => if arg.extractLsb' 8 4 = 0 then .ok (.setint (arg.extractLsb' 0 8)) else .error .reservedBits
  | 0x5 => plainCommand .clear arg
  | 0x6 => if arg.extractLsb' 2 10 = 0 then .ok (.pbegin (arg.extractLsb' 0 2)) else .error .reservedBits
  | 0x7 => if arg.extractLsb' 8 4 = 0 then .ok (.pchar (arg.extractLsb' 0 8)) else .error .reservedBits
  | 0x8 => plainCommand .pend arg
  | 0x9 => plainCommand .render arg
  | 0xA => plainCommand .astep arg
  | _ => .error .reservedOpcode

/-- The opcode of each command (R71). -/
def Instr.opcode : Instr → BitVec 4
  | .setup => 0x1
  | .setinv _ => 0x2
  | .autoen => 0x3
  | .setint _ => 0x4
  | .clear => 0x5
  | .pbegin _ => 0x6
  | .pchar _ => 0x7
  | .pend => 0x8
  | .render => 0x9
  | .astep => 0xA

/-- The operand field of each command, zero-extended, reserved bits zero (R72, R73). -/
def Instr.arg : Instr → BitVec 12
  | .setup => 0
  | .setinv b => (BitVec.ofBool b).setWidth 12
  | .autoen => 0
  | .setint n => n.setWidth 12
  | .clear => 0
  | .pbegin s => s.setWidth 12
  | .pchar c => c.setWidth 12
  | .pend => 0
  | .render => 0
  | .astep => 0

/-- The word of a command (R70, R71). -/
def encode (i : Instr) : Word := wordOf i.opcode i.arg

/-- The match column of R71. -/
def Instr.matchWord : Instr → Word
  | .setup => 0x1000
  | .setinv _ => 0x2000
  | .autoen => 0x3000
  | .setint _ => 0x4000
  | .clear => 0x5000
  | .pbegin _ => 0x6000
  | .pchar _ => 0x7000
  | .pend => 0x8000
  | .render => 0x9000
  | .astep => 0xA000

/-- The mask column of R71. -/
def Instr.maskWord : Instr → Word
  | .setup => 0xFFFF
  | .setinv _ => 0xFFFE
  | .autoen => 0xFFFF
  | .setint _ => 0xFF00
  | .clear => 0xFFFF
  | .pbegin _ => 0xFFFC
  | .pchar _ => 0xFF00
  | .pend => 0xFFFF
  | .render => 0xFFFF
  | .astep => 0xFFFF

/-- The (match, mask) columns of the opcode map, one row per command, in its order (R71). -/
def opcodeRows : List (Word × Word) :=
  [(0x1000, 0xFFFF), (0x2000, 0xFFFE), (0x3000, 0xFFFF), (0x4000, 0xFF00), (0x5000, 0xFFFF),
   (0x6000, 0xFFFC), (0x7000, 0xFF00), (0x8000, 0xFFFF), (0x9000, 0xFFFF), (0xA000, 0xFFFF)]

/-- "A word w selects a command when (w & mask) == match" (R71). -/
def selects (row : Word × Word) (w : Word) : Bool := w &&& row.2 == row.1

/-- The command word whose bits are `w` as the opcode table numbers them, bits above `nbits` zero. -/
def tableWord (nbits w : Nat) : Word := BitVec.ofNat 16 (w % 2 ^ nbits)

/-- What the decoder reads from a table row's bits; a row longer than a command word is none of this hardware's. -/
def decodeTableWord (nbits w : Nat) : Option Instr :=
  if nbits ≤ 16 then
    match decode (tableWord nbits w) with
    | .ok i => some i
    | .error _ => none
  else none

end Sys2Proof
end

