-- ==== Sys2Proof/Machine/RomWord.lean ====
section
/-! DEFINITION. The format of a glyph ROM word (R24) and what the source fixes of the ROM's contents (R25). -/

namespace Sys2Proof.Machine

/-- U of a ROM word: bit 7 (R24). -/
def unsupportedBit (word : Byte) : Bool := word.getLsbD 7

/-- P of a ROM word: bits 6:0 (R24). -/
def patternBits (word : Byte) : Pattern := word.extractLsb' 0 7

/-- SENTINEL: "all seven bits set" (R6, R25). -/
def sentinel : Pattern := 0x7F

/-- A ROM word with U = 1 holds the sentinel (R25 (1)). -/
def sentinelWord (word : Byte) : Bool := !unsupportedBit word || patternBits word == sentinel

/-- R25 (2), (3): '#' and '$' are unsupported, '1' to '4' are supported. -/
def glyphConstraints (glyph : Vector Byte 95) : Bool :=
  unsupportedBit glyph[0x03] && unsupportedBit glyph[0x04] &&
  !unsupportedBit glyph[0x11] && !unsupportedBit glyph[0x12] &&
  !unsupportedBit glyph[0x13] && !unsupportedBit glyph[0x14]

end Sys2Proof.Machine
end

