-- ==== Sys2Proof/Config.lean ====
section
/-! DEFINITION. What an implementation fixes (the parameters of R6) and what nothing fixes: the OPEN parameters
and the transport's answers, which are opaque constants here, so that no proof can know their value. -/

namespace Sys2Proof

/-- A configured number before the check of R236: only `fin` is a finite rational (R28). -/
inductive Number where
  | nan
  | posInf
  | negInf
  | fin (q : Rat)
  deriving DecidableEq, Repr, Inhabited

/-- The value on the input port SIG (R34). -/
inductive Signal where
  /-- The configured source "cannot be found among available sources". -/
  | absent
  | nan
  | posInf
  | negInf
  | fin (q : Rat)
  deriving DecidableEq, Repr, Inhabited

/-- One transport answer: `ok` (R56), and the byte a read returns, which the block discards (R58). -/
structure Answer where
  ok : Bool
  data : Byte
  deriving DecidableEq, Repr, Inhabited

/-- OOR_POLICY (R6, D7): what PCHAR does with a code outside 0x20..0x7E. -/
inductive OorPolicy where
  /-- The spec's rules: encode to the sentinel (R102). -/
  | clamp
  /-- The alternative of D7: PCHAR of such a code is refused. -/
  | reject
  deriving DecidableEq, Repr, Inhabited

/-- NAN_POLICY (R6, D14): what ASTEP does with a not-a-number signal. -/
inductive NanPolicy where
  /-- The spec's rules: treat it as 0 (R193). -/
  | zero
  /-- The alternative of D14: the level holds its last value. -/
  | hold
  deriving DecidableEq, Repr, Inhabited

/-- The contents of GLYPH_ROM: exactly 95 words of the format of R24, of which the source fixes what (2) and (3) of R25 say,
so that no other ROM is a parameter of this hardware (D10: "it only narrows the admitted ROMs"). (1) of R25 is a check at
reset (R236). The field defaults only show that such contents exist. -/
structure GlyphRom where
  words : Vector Byte 95 := ((Vector.replicate 95 0x00).set 0x03 0xFF).set 0x04 0xFF
  constrained : Machine.glyphConstraints words = true := by decide
  deriving DecidableEq, Repr, Inhabited

/-- The parameters of R6 as an integrator hands them over, before the load and the check of R260. -/
structure Config where
  /-- GLYPH_ROM (R24, R25). -/
  glyphRom : GlyphRom
  /-- PERM_N: the destination bit of each source bit, normal orientation (R27). -/
  permN : Vector (BitVec 3) 7
  /-- PERM_I: the same, inverted orientation (R27). -/
  permI : Vector (BitVec 3) 7
  /-- COLON_ON (R172). -/
  colonOn : Byte
  /-- THR as configured; a legal configuration holds finite rationals only (R28, R236). -/
  thr : List Number
  /-- LVL_CFG: any integers, clamped at load (R29). -/
  lvlCfg : List Int
  /-- GUARD (R6, R7). -/
  guard : Rat
  /-- LEVEL_RESET: an optional value in [0,15] (R33). -/
  levelReset : Option (BitVec 4)
  /-- N_MAX: the depth of an implementation's table, `none` where it has no bound (R6, D28). -/
  nMax : Option Nat
  oorPolicy : OorPolicy
  nanPolicy : NanPolicy
  deriving DecidableEq, Repr, Inhabited

/-- The OPEN parameters (D12, D20, D28, D38): the source gives none of them, so nothing is known of them but what
their types say: R25 (2) and (3) of the glyph ROM (log entry 5). -/
opaque Config.openParams : Config

/-- The configuration `State.reset` loads: OPEN everywhere but where R6 fixes or the spec's rules choose a value. -/
def Config.installed : Config :=
  { Config.openParams with guard := 103 / 100, oorPolicy := .clamp, nanPolicy := .zero }

/-- The answer to the n-th request where the environment has none ready: "a draw from the environment, under no law"
(R9, R56). A free value (log entry 6). -/
opaque Config.freeAnswer : Nat → Answer

end Sys2Proof
end

