-- ==== Sys2Proof/Machine/Load.lean ====
section
/-! DEFINITION. Loading and checking a configuration: steps (1) and (2) of the reset (R260), with the checks that R236
lists under ConfigInvalid. -/

namespace Sys2Proof.Machine

/-- The ROMs and parameters after the load; no command writes them (R20, R39). -/
structure Rom where
  /-- GLYPH_ROM (R24). -/
  glyph : Vector Byte 95
  /-- PERM_N (R27). -/
  permN : Vector (BitVec 3) 7
  /-- PERM_I (R27). -/
  permI : Vector (BitVec 3) 7
  /-- THR, in stored order (R28). -/
  thr : List Rat
  /-- LVL, clamped (R29). -/
  lvl : List (BitVec 4)
  /-- COLON_ON (R172). -/
  colonOn : Byte
  /-- GUARD (R7). -/
  guard : Rat
  oorPolicy : OorPolicy
  nanPolicy : NanPolicy
  deriving DecidableEq, Repr, Inhabited

/-- `min(15, max(0, l))` (R29). -/
def clampLevel (l : Int) : BitVec 4 := BitVec.ofNat 4 (min 15 (max 0 l)).toNat

/-- A threshold as loaded. A threshold that is not finite is refused by the check; what then stands in the ROM is
the model's (log entry 9). -/
def loadThreshold : Number → Rat
  | .fin q => q
  | .nan => 0
  | .posInf => 0
  | .negInf => 0

/-- Step (1) of the reset: load the configuration (R260). -/
def loadRom (c : Config) : Rom :=
  { glyph := c.glyphRom.words, permN := c.permN, permI := c.permI
    thr := c.thr.map loadThreshold, lvl := c.lvlCfg.map clampLevel
    colonOn := c.colonOn, guard := c.guard, oorPolicy := c.oorPolicy, nanPolicy := c.nanPolicy }

/-- The seven destinations are a bijection of 0..6 (R27): all below 7 and no two equal. -/
def isBijection (perm : Vector (BitVec 3) 7) : Bool :=
  perm.toList.all (fun d => decide (d.toNat < 7)) && decide perm.toList.Nodup

def isFinite : Number → Bool
  | .fin _ => true
  | .nan => false
  | .posInf => false
  | .negInf => false

/-- N <= N_MAX where the implementation has a bound (R6, R236). -/
def withinBound (nMax : Option Nat) (n : Nat) : Bool :=
  match nMax with
  | none => true
  | some m => decide (n ≤ m)

/-- The permutations of a configuration are bijections (R236). -/
def permsBijective (c : Config) : Bool := isBijection c.permN && isBijection c.permI

/-- The threshold and level lists have one length (R28, R236). -/
def lengthsAgree (c : Config) : Bool := c.thr.length == c.lvlCfg.length

/-- Every threshold is a finite rational (R28, R236). -/
def thresholdsFinite (c : Config) : Bool := c.thr.all isFinite

/-- Every GLYPH_ROM word with U = 1 has P = 0x7F (R25, R236). -/
def sentinelsHold (c : Config) : Bool := c.glyphRom.words.toList.all sentinelWord

/-- Step (2) of the reset: the check whose failure is ConfigInvalid (R236, R260). -/
def configValid (c : Config) : Bool :=
  permsBijective c && lengthsAgree c && withinBound c.nMax c.thr.length && thresholdsFinite c && sentinelsHold c

end Sys2Proof.Machine
end

