-- ==== Sys2Proof/Machine/State.lean ====
section
/-! DEFINITION. The state of the block (R20), its input ports and output histories, and the state after reset (R40). -/

namespace Sys2Proof.Machine

/-- CONFIG before SETUP, RUN after it (R31). -/
inductive Phase where
  | config
  | run
  deriving DecidableEq, Repr

/-- A request to the transport (R79). -/
inductive Request where
  /-- `WR(a, v)`: a bus write of byte `v` to register address `a`. -/
  | wr (a v : Byte)
  /-- `CMD(k)`: a single command byte. -/
  | cmd (k : Byte)
  /-- `RD(a)`: a bus read at address `a`; the byte read is discarded. -/
  | rd (a : Byte)
  deriving DecidableEq, Repr

/-- An entry of the event history (R230). -/
inductive Event where
  /-- Code 1 (R231). -/
  | unsupportedGlyph (c : Byte)
  /-- Code 2 (R232). -/
  | bufferOverflow (c : Byte)
  /-- Code 3 (R233). -/
  | transportFailure (r : Request)
  /-- Code 4 (R234). -/
  | signalSourceMismatch
  deriving DecidableEq, Repr

/-- The fault reasons of R237. A faulting command answers a NEXT state in which `faulted` holds the reason, because the
spec says what it writes; so `step` never answers with one of these as `Host.Outcome.fault` (log entry 3). -/
inductive Fault where
  /-- Written by RENDER with `level` unset (R33, R237). Safe: it stands for a dimming byte the source does not fix. -/
  | levelUnset
  /-- Written by PCHAR or PEND reading an unset `start`, `cursor` or `stopped` (R237), in states no run reaches. Safe. -/
  | unwritten
  deriving DecidableEq, Repr

/-- The refusal reasons of R236. A refused command answers a NEXT state in which `refused` is set, because the spec says
what it changes; so `step` never answers with one of these as `Host.Outcome.refused` (log entry 2). -/
inductive Refusal where
  /-- An instruction without a meaning; no instruction of this model is one, so nothing raises it. Safe. -/
  | notModelled (mnemonic : String)
  /-- Raised by step on a word whose op is 0x0 or 0xB..0xF (R74). Safe. -/
  | reservedOpcode
  /-- Raised by step on a word of a defined op with a nonzero reserved bit (R73). Safe. -/
  | reservedBits
  /-- Raised by SETUP, SETINV, AUTOEN outside phase CONFIG (R212). Safe. -/
  | phase
  /-- Raised by the other commands outside their phase or print state (R212). Safe. -/
  | protocol
  /-- Raised by a reset that is given a bad configuration (R236, R260). Safe. -/
  | configInvalid
  /-- Raised by PCHAR of a code outside 0x20..0x7E under OOR_POLICY = reject (R6, D7); the spec names no reason for it
  (log entry 10). Safe. -/
  | codeRejected
  deriving DecidableEq, Repr

/-- What the host presents (R268): a command word with the value SIG has while it runs (R34, R269), or a reset with the
configuration it loads (R260). -/
inductive Input where
  | command (w : Word) (sig : Signal)
  | reset (c : Config)
  deriving DecidableEq, Repr

/-- The block's state, its ports and its histories. -/
@[ext]
structure State where
  /-- The ROMs and parameters, written by reset only (R20, R39). -/
  rom : Rom
  /-- The four cell registers (R22). -/
  cell : Vector Byte 4
  /-- The colon flag (R23). -/
  colon : Bool
  /-- The orientation bit, `true` inverted (R30). -/
  inverted : Bool
  /-- The auto-intensity enable (R32). -/
  autoEn : Bool
  /-- The phase (R31). -/
  phase : Phase
  /-- The dimming level, `none` where unset (R33). -/
  level : Option (BitVec 4)
  /-- Between PBEGIN and PEND (R35). -/
  inPrint : Bool
  /-- The start position, `none` where unset (R35). -/
  start : Option (BitVec 2)
  /-- The cursor, `none` where unset (R35). -/
  cursor : Option (BitVec 3)
  /-- The print has hit an overflow, `none` where unset (R35). -/
  stopped : Option Bool
  /-- The refused mark (R236). -/
  refused : Bool
  /-- The fault mark (R237). -/
  faulted : Option Fault
  /-- The request history, oldest first, each with its answer (R37). -/
  reqs : List (Request × Bool)
  /-- The event history, oldest first (R37, R230). -/
  events : List Event
  /-- PEND's results on the response port, oldest first (R38, R269). -/
  counts : List Nat
  /-- The reasons of the refused commands, oldest first; the model's own (log entry 4). -/
  refusals : List Refusal
  /-- The inputs the host has still to present; the model's own (R21, R269, log entry 1). -/
  inbox : List Input
  /-- The value on port SIG (R34). -/
  sig : Signal
  /-- The transport answers the environment has ready; the model's own (R56, R269, log entry 6). -/
  answers : List Answer
  /-- How many requests have been answered, the index of the free answer; the model's own (log entry 6). -/
  draws : Nat
  deriving DecidableEq, Repr

/-- The state a reset leaves when it loads configuration `c` (R40, R260). -/
def State.boot (c : Config) : State where
  rom := loadRom c
  cell := #v[0x00, 0x00, 0x00, 0x00]
  colon := false
  inverted := false
  autoEn := false
  phase := .config
  level := c.levelReset
  inPrint := false
  start := none
  cursor := none
  stopped := none
  refused := !configValid c
  faulted := none
  reqs := []
  events := []
  counts := []
  refusals := if configValid c then [] else [.configInvalid]
  inbox := []
  sig := .absent
  answers := []
  draws := 0

/-- The machine right after reset, the OPEN parameters being what they are (R40). -/
def State.reset : State := State.boot Config.installed

end Sys2Proof.Machine
end

