-- ==== Sys2Proof/Machine/Ops.lean ====
section
/-! DEFINITION. The named operations over the state: the primitives of R9 (refuse, fault, Log, Emit), the guards of R212,
one named update per state element a command writes, and the reset as an operation. -/

namespace Sys2Proof.Machine

/-! ## Refusal and fault -/

/-- `refuse(reason)`: the mark is set and the command has no other effect (R9, R236). -/
def State.refuse (r : Refusal) (s : State) : State :=
  { s with refused := true, refusals := s.refusals ++ [r] }

/-- `fault(reason)`: the mark is written and nothing else (R9, R237). -/
def State.raiseFault (f : Fault) (s : State) : State :=
  { s with faulted := some f }

/-- The refusal of a word that is no command (R73, R74, R236). -/
def refusalOfDecode : DecodeError → Refusal
  | .reservedOpcode => .reservedOpcode
  | .reservedBits => .reservedBits

/-! ## Events and requests -/

/-- `Log(ev)`: append to the event history (R9, R230). -/
def State.log (ev : Event) (s : State) : State :=
  { s with events := s.events ++ [ev] }

/-- The answer the environment gives to the k-th request from now on: the one it has ready, else a free value (R56). -/
def State.answerAt (s : State) (k : Nat) : Answer :=
  (s.answers[k]?).getD (Config.freeAnswer (s.draws + k))

/-- `Emit(req)`: append the request with its answer to the history; log TransportFailure if `ok` = 0 (R56, R233). The
byte a read returns is discarded (R58). -/
def State.emit (s : State) (r : Request) : State :=
  { s with
    reqs := s.reqs ++ [(r, (s.answerAt 0).ok)]
    events := if (s.answerAt 0).ok then s.events else s.events ++ [.transportFailure r]
    answers := s.answers.tail
    draws := s.draws + 1 }

/-- The requests of one command in their order; a failure does not stop the rest (R56, R175). -/
def State.emitAll (s : State) (rs : List Request) : State :=
  rs.foldl State.emit s

/-! ## The guards of the command legality table (R212) -/

/-- SETUP, SETINV, AUTOEN: legal in phase CONFIG, else refused with Phase. -/
def State.inConfig (s : State) (run : State → State) : State :=
  if s.phase = .config then run s else s.refuse .phase

/-- SETINT: legal outside a print in both phases, else refused with Protocol. -/
def State.outsidePrint (s : State) (run : State → State) : State :=
  if s.inPrint then s.refuse .protocol else run s

/-- CLEAR, PBEGIN, RENDER, ASTEP: legal in phase RUN outside a print, else refused with Protocol. -/
def State.inRun (s : State) (run : State → State) : State :=
  if s.phase = .run ∧ s.inPrint = false then run s else s.refuse .protocol

/-- PCHAR, PEND: legal in phase RUN inside a print, else refused with Protocol. -/
def State.inPrinting (s : State) (run : State → State) : State :=
  if s.phase = .run ∧ s.inPrint = true then run s else s.refuse .protocol

/-- Reading a state element that holds no value is a fault (R9, R237). -/
def State.reading {α : Type} (s : State) (element : Option α) (run : α → State) : State :=
  match element with
  | some v => run v
  | none => s.raiseFault .unwritten

/-! ## One update per element a command writes -/

/-- `phase <- RUN` (R210). -/
def State.enterRun (s : State) : State := { s with phase := .run }

/-- `inverted <- b` (R211). -/
def State.setInverted (b : Bool) (s : State) : State := { s with inverted := b }

/-- `auto_en <- 1` (R191). -/
def State.enableAuto (s : State) : State := { s with autoEn := true }

/-- `level <- l` (R190, R192). -/
def State.setLevel (l : BitVec 4) (s : State) : State := { s with level := some l }

/-- `cell[0..3] <- 0x00; colon <- 0` (R148). -/
def State.clearBuffer (s : State) : State := { s with cell := #v[0x00, 0x00, 0x00, 0x00], colon := false }

/-- `in_print <- 1; start <- p; cursor <- p; stopped <- 0` (R141). -/
def State.beginPrint (p : BitVec 2) (s : State) : State :=
  { s with inPrint := true, start := some p, cursor := some (p.setWidth 3), stopped := some false }

/-- `colon <- 1` (R143). -/
def State.setColon (s : State) : State := { s with colon := true }

/-- `cursor <- c` (R142). -/
def State.setCursor (c : BitVec 3) (s : State) : State := { s with cursor := some c }

/-- `cell[i] <- v`; the index is in [0,4) by its type, so no write lands elsewhere (R52). -/
def State.writeCell (i : Fin 4) (v : Byte) (s : State) : State := { s with cell := s.cell.set i v }

/-- `stopped <- 1` (R145). -/
def State.stopPrint (s : State) : State := { s with stopped := some true }

/-- `in_print <- 0; return count` (R147): the count goes to the response port (R38). -/
def State.endPrint (count : Nat) (s : State) : State :=
  { s with inPrint := false, counts := s.counts ++ [count] }

/-! ## The outside -/

/-- The host presents a command: it leaves the inbox, and its SIG value stands on the port (R34, R268). -/
def State.present (rest : List Input) (sig : Signal) (s : State) : State :=
  { s with inbox := rest, sig := sig }

/-- Reset as an operation, in either phase (R260): the block's state is `State.boot c`; what the host has still to
present and what the environment has ready is not the block's and stays. -/
def State.restart (c : Config) (rest : List Input) (s : State) : State :=
  { State.boot c with inbox := rest, sig := s.sig, answers := s.answers, draws := s.draws }

end Sys2Proof.Machine
end

