-- ==== Sys2Proof/Machine/Operands.lean ====
section
/-! DEFINITION. Operand forms and the values commands form from them: the clamp of SETINT, the zero extensions, the
character classes of PCHAR, the device bytes. -/

namespace Sys2Proof.Machine

/-- `min(n, 15)` (R190). -/
def clampOperand (n : BitVec 8) : BitVec 4 := BitVec.ofNat 4 (min n.toNat 15)

/-- COLON_CHAR (R6). -/
def colonChar : Byte := 0x3A

/-- `0x20 <= c <= 0x7E` (R51). -/
abbrev inGlyphRange (c : Byte) : Prop := 0x20 ≤ c.toNat ∧ c.toNat ≤ 0x7E

/-- `zext_8` of a 7-bit pattern (R123). -/
def zextPattern (q : Pattern) : Byte := q.setWidth 8

/-- ADDR_CELL (R53, R80). -/
def addrCell : Vector Byte 4 := #v[0x00, 0x02, 0x06, 0x08]

/-- ADDR_COLON (R53, R80). -/
def addrColon : Byte := 0x04

/-- CMD_OSC_ON (R53, R80). -/
def cmdOscOn : Byte := 0x21

/-- CMD_DISP_ON (R53, R80). -/
def cmdDispOn : Byte := 0x81

/-- CMD_OSC_OFF, which no command issues (R82). -/
def cmdOscOff : Byte := 0x20

/-- CMD_DISP_OFF, which no command issues (R82). -/
def cmdDispOff : Byte := 0x80

/-- `0xE0 | zext_8(level)` (R81, R173). -/
def dimByte (level : BitVec 4) : Byte := 0xE0#8 ||| level.setWidth 8

end Sys2Proof.Machine
end

