-- ==== Sys2Proof/Machine/Control.lean ====
section
/-! DEFINITION. The control family: SETUP, SETINV (R210, R211). -/

namespace Sys2Proof.Machine

/-- SETUP's requests, in order: each startup command with its acknowledge read (R210). -/
def setupRequests : List Request :=
  [.cmd cmdOscOn, .rd cmdOscOn, .cmd cmdDispOn, .rd cmdDispOn]

/-- SETUP (R210). -/
def execSetup (s : State) : Host.Outcome State Fault Refusal :=
  .next (s.inConfig fun s => (s.emitAll setupRequests).enterRun)

/-- SETINV b (R211). -/
def execSetinv (b : Bool) (s : State) : Host.Outcome State Fault Refusal :=
  .next (s.inConfig (State.setInverted b))

end Sys2Proof.Machine
end

