-- ==== Sys2Proof/Machine/Flags.lean ====
section
/-! DEFINITION. The cursor computations and conditions of a print (R142 to R150), and the signal computations of ASTEP
(R193, R194). -/

namespace Sys2Proof.Machine

/-- The `start` register as a cursor value, zero-extended (R72, R141). -/
def startCursor (start : BitVec 2) : BitVec 3 := start.setWidth 3

/-- Step 2 of the print algorithm: "if cursor != start: cursor <- cursor - 1" (R142, R143). -/
def borrowCell (cursor : BitVec 3) (start : BitVec 2) : BitVec 3 :=
  if cursor ≠ startCursor start then cursor - 1 else cursor

/-- Step 4: "Advance cursor by one" (R142). -/
def advanceCursor (cursor : BitVec 3) : BitVec 3 := cursor + 1

/-- `cursor - start` on natural numbers (R8, R147). -/
def printCount (cursor : BitVec 3) (start : BitVec 2) : Nat := cursor.toNat - start.toNat

/-- An effective signal (R193): never absent, never not-a-number. -/
inductive EffSignal where
  | posInf
  | negInf
  | fin (q : Rat)
  deriving DecidableEq, Repr

/-- `eff(s)` (R193). -/
def effective : Signal → EffSignal
  | .absent => .fin 0
  | .nan => .fin 0
  | .posInf => .posInf
  | .negInf => .negInf
  | .fin q => .fin q

/-- `sat(v, t)`, exact and strict, the guard on the threshold (R194). -/
def satisfies (guard : Rat) (v : EffSignal) (t : Rat) : Bool :=
  match v with
  | .posInf => true
  | .negInf => false
  | .fin q => decide (t * guard < q)

end Sys2Proof.Machine
end

