-- ==== Sys2Proof/Machine/Intensity.lean ====
section
/-! DEFINITION. The intensity family: AUTOEN, SETINT, ASTEP (R190 to R198). -/

namespace Sys2Proof.Machine

/-- AUTOEN (R191). -/
def execAutoen (s : State) : Host.Outcome State Fault Refusal :=
  .next (s.inConfig State.enableAuto)

/-- SETINT n (R190). -/
def execSetint (n : BitVec 8) (s : State) : Host.Outcome State Fault Refusal :=
  .next (s.outsidePrint (State.setLevel (clampOperand n)))

/-- The scan of ASTEP over (threshold, level) pairs in stored order: each satisfied entry overwrites the level, which
starts at 0 (R192, R195). -/
def scanLevels (guard : Rat) (v : EffSignal) (table : List (Rat × BitVec 4)) : BitVec 4 :=
  table.foldl (fun lvl entry => if satisfies guard v entry.1 then entry.2 else lvl) 0

/-- `nextLevel(signal)` (R192). The model's choice, where the spec has no rule: after a reset refused for a threshold and a
level list of different lengths the scan ends with the shorter list (log entry 9). -/
def nextLevel (rom : Rom) (sig : Signal) : BitVec 4 :=
  scanLevels rom.guard (effective sig) (rom.thr.zip rom.lvl)

/-- "if s = Absent: Log(SignalSourceMismatch)" (R193, R234). -/
def State.logMismatch (s : State) : State :=
  if s.sig = .absent then s.log .signalSourceMismatch else s

/-- Under NAN_POLICY = hold a not-a-number signal leaves the level at its last value (R6, D14, log entry 11). -/
abbrev holdsLevel (s : State) : Prop := s.rom.nanPolicy = .hold ∧ s.sig = .nan

/-- The part of ASTEP that runs when auto mode is on (R192). -/
def State.autoStep (s : State) : State :=
  if holdsLevel s then s
  else s.logMismatch.setLevel (nextLevel s.rom s.sig)

/-- ASTEP: inert when auto mode is off (R192, R196). -/
def execAstep (s : State) : Host.Outcome State Fault Refusal :=
  .next (s.inRun fun s => if s.autoEn then s.autoStep else s)

end Sys2Proof.Machine
end

