-- ==== Sys2Proof/Machine/Glyph.lean ====
section
/-! DEFINITION. The glyph ROM and encoder (R100 to R105). -/

namespace Sys2Proof.Machine

/-- `ROM_READ(GLYPH_ROM, i)` (R9, R51): the index is below 95 by its type. -/
def romRead (rom : Rom) (i : Fin 95) : Byte := rom.glyph[i.val]

/-- `encode(c) -> (U, P)` (R100): the ROM word in range, the sentinel outside it, without a read (R102). -/
def encodeGlyph (rom : Rom) (c : Byte) : Bool × Pattern :=
  if h : inGlyphRange c then
    let word := romRead rom ⟨c.toNat - 0x20, by have := h.2; omega⟩
    (unsupportedBit word, patternBits word)
  else (true, sentinel)

end Sys2Proof.Machine
end

