-- ==== Sys2Proof/Machine/Remap.lean ====
section
/-! DEFINITION. The orientation mux: the bit permutation (R120), its inverse (R122) and the cell order (R124). -/

namespace Sys2Proof.Machine

/-- `PERM_o`: PERM_N in normal orientation, PERM_I in inverted (R120). -/
def permOf (rom : Rom) (inverted : Bool) : Vector (BitVec 3) 7 :=
  if inverted then rom.permI else rom.permN

/-- `Q[j] <- b`. The model's choice, where the spec has no rule: for j = 7, which only a configuration refused for a table
that is no bijection holds, the write is dropped (log entry 9). -/
def putBit (q : Pattern) (j : BitVec 3) (b : Bool) : Pattern :=
  if b then q ||| (1#7 <<< j.toNat) else q &&& ~~~(1#7 <<< j.toNat)

/-- The source bits in the order of the loop `for i in 0..6`. -/
def sourceBits : List (Fin 7) := [0, 1, 2, 3, 4, 5, 6]

/-- "7 fixed bit-to-bit copies" by one table (R120). -/
def permute (perm : Vector (BitVec 3) 7) (p : Pattern) : Pattern :=
  sourceBits.foldl (fun q i => putBit q perm[i.val] (p.getLsbD i.val)) 0

/-- `remap(P, o)` (R120). -/
def remap (rom : Rom) (inverted : Bool) (p : Pattern) : Pattern := permute (permOf rom inverted) p

/-- `unmap(Q, o)[i] = Q[PERM_o[i]]` by one table (R122). The model's choice, where the spec has no rule: an entry of 7 reads
as 0 (log entry 9). -/
def unpermute (perm : Vector (BitVec 3) 7) (q : Pattern) : Pattern :=
  sourceBits.foldl (fun p i => putBit p (BitVec.ofNat 3 i.val) (q.getLsbD perm[i.val].toNat)) 0

/-- `unmap(Q, o)` (R122). -/
def unmap (rom : Rom) (inverted : Bool) (q : Pattern) : Pattern := unpermute (permOf rom inverted) q

/-- `cellsel(k)` (R124): the cells in order, or reversed when inverted. -/
def cellsel (s : State) (k : Fin 4) : Byte :=
  if s.inverted then s.cell[3 - k.val] else s.cell[k.val]

end Sys2Proof.Machine
end

