-- ==== Sys2Proof/Machine/Print.lean ====
section
/-! DEFINITION. The print family: CLEAR, PBEGIN, PCHAR, PEND (R140 to R153). -/

namespace Sys2Proof.Machine

/-- CLEAR (R148). -/
def execClear (s : State) : Host.Outcome State Fault Refusal :=
  .next (s.inRun State.clearBuffer)

/-- PBEGIN p (R141). -/
def execPbegin (p : BitVec 2) (s : State) : Host.Outcome State Fault Refusal :=
  .next (s.inRun (State.beginPrint p))

/-- "if U = 1: Log(UnsupportedGlyph(c))" (R103, R142). -/
def State.warnGlyph (c : Byte) (s : State) : State :=
  if (encodeGlyph s.rom c).1 then s.log (.unsupportedGlyph c) else s

/-- The byte a character stores: encoded, remapped in the current orientation, zero-extended (R142, R123). -/
def State.glyphByte (c : Byte) (s : State) : Byte :=
  zextPattern (remap s.rom s.inverted (encodeGlyph s.rom c).2)

/-- Steps 2 and 4 for the colon character: the flag, the borrowed cell, the advance (R143). -/
def State.colonStep (cursor : BitVec 3) (start : BitVec 2) (s : State) : State :=
  s.setColon.setCursor (advanceCursor (borrowCell cursor start))

/-- Step 3 for any other character: the overflow, or the cell write and step 4 (R144, R145). -/
def State.cellStep (c : Byte) (cursor : BitVec 3) (s : State) : State :=
  if h : cursor.toNat < 4 then (s.writeCell ⟨cursor.toNat, h⟩ (s.glyphByte c)).setCursor (advanceCursor cursor)
  else (s.log (.bufferOverflow c)).stopPrint

/-- PCHAR in a print that has not stopped (R142): step 1's warning, then the branch of the character. The registers a
branch reads are read first, so that a fault writes nothing else (R237). -/
def State.processChar (c : Byte) (s : State) : State :=
  s.reading s.cursor fun cursor =>
    if c = colonChar then s.reading s.start fun start => (s.warnGlyph c).colonStep cursor start
    else (s.warnGlyph c).cellStep c cursor

/-- PCHAR is refused under OOR_POLICY = reject for a code outside 0x20..0x7E (R6, D7, log entry 10). -/
abbrev rejectsCode (rom : Rom) (c : Byte) : Prop := rom.oorPolicy = .reject ∧ ¬ inGlyphRange c

/-- PCHAR past the guard of R212: refused under the reject policy, inert once stopped (R146), else processed. -/
def State.printChar (c : Byte) (s : State) : State :=
  if rejectsCode s.rom c then s.refuse .codeRejected
  else s.reading s.stopped fun stopped => if stopped then s else s.processChar c

/-- PCHAR c (R142). -/
def execPchar (c : BitVec 8) (s : State) : Host.Outcome State Fault Refusal :=
  .next (s.inPrinting (State.printChar c))

/-- PEND past the guard of R212 (R147). -/
def State.finishPrint (s : State) : State :=
  s.reading s.cursor fun cursor => s.reading s.start fun start => s.endPrint (printCount cursor start)

/-- PEND (R147). -/
def execPend (s : State) : Host.Outcome State Fault Refusal :=
  .next (s.inPrinting State.finishPrint)

end Sys2Proof.Machine
end

