-- ==== Sys2Proof/Machine/Render.lean ====
section
/-! DEFINITION. RENDER and the frame it hands to the transport (R170 to R176). -/

namespace Sys2Proof.Machine

/-- The colon byte (R172). -/
def colonByte (s : State) : Byte := if s.colon then s.rom.colonOn else 0x00

/-- The write of output position k (R171). -/
def cellRequest (s : State) (k : Fin 4) : Request := .wr addrCell[k.val] (cellsel s k)

/-- RENDER's seven requests, in order (R174): four cells, the colon, the dimming command, its read-back. -/
def frameRequests (s : State) (level : BitVec 4) : List Request :=
  [cellRequest s 0, cellRequest s 1, cellRequest s 2, cellRequest s 3,
   .wr addrColon (colonByte s), .cmd (dimByte level), .rd (dimByte level)]

/-- RENDER past the guard of R212: a fault before any request if the level is unset, else the frame (R170, R238). -/
def State.sendFrame (s : State) : State :=
  match s.level with
  | none => s.raiseFault .levelUnset
  | some level => s.emitAll (frameRequests s level)

/-- RENDER (R170). -/
def execRender (s : State) : Host.Outcome State Fault Refusal :=
  .next (s.inRun State.sendFrame)

end Sys2Proof.Machine
end

