-- ==== Sys2Proof/Machine/Dispatch.lean ====
section
/-! DEFINITION. The dispatch: one arm per command, each one call of its meaning. -/

namespace Sys2Proof.Machine

/-- What a command does in a state. -/
def exec (i : Instr) (s : State) : Host.Outcome State Fault Refusal :=
  match i with
  | .setup => Sys2Proof.Machine.execSetup s
  | .setinv b => Sys2Proof.Machine.execSetinv b s
  | .autoen => Sys2Proof.Machine.execAutoen s
  | .setint n => Sys2Proof.Machine.execSetint n s
  | .clear => Sys2Proof.Machine.execClear s
  | .pbegin p => Sys2Proof.Machine.execPbegin p s
  | .pchar c => Sys2Proof.Machine.execPchar c s
  | .pend => Sys2Proof.Machine.execPend s
  | .render => Sys2Proof.Machine.execRender s
  | .astep => Sys2Proof.Machine.execAstep s

end Sys2Proof.Machine
end

