-- ==== Sys2Proof/Machine/Step.lean ====
section
/-! DEFINITION. One step: the next input the host presents. -/

namespace Sys2Proof.Machine

/-- One step (R21, R268). Nothing presented: the block waits (R260). A reset: R260. A command word: it leaves the inbox,
its SIG value stands on the port, and the decoded command runs to completion; a word that is no command is refused. -/
def step (s : State) : Host.Outcome State Fault Refusal :=
  match s.inbox with
  | [] => .next s
  | .reset c :: rest => .next (s.restart c rest)
  | .command w sig :: rest =>
    match decode w with
    | .ok i => exec i (s.present rest sig)
    | .error e => .next ((s.present rest sig).refuse (refusalOfDecode e))

/-- The host presents this word next, with SIG as it stands. -/
def State.withFetchWord (s : State) (nbits w : Nat) : State :=
  { s with inbox := .command (tableWord nbits w) s.sig :: s.inbox }

end Sys2Proof.Machine
end

