-- ==== Sys2Proof/Machine/Asm.lean ====
section
/-! DEFINITION. The host's side of a program: the pseudo-instructions PRINT and UPDATE (R77, R78) and the assembler's
line syntax (R76), over lines given as lists of character codes. -/

namespace Sys2Proof.Machine

/-! ## Pseudo-instructions -/

/-- `PRINT p, text` expands to PBEGIN, one PCHAR per byte, left to right, PEND (R77). -/
def expandPrint (p : BitVec 2) (text : List Byte) : List Instr :=
  .pbegin p :: (text.map Instr.pchar ++ [.pend])

/-- One update cycle: CLEAR, the prints, RENDER, ASTEP (R78). -/
def expandUpdate (prints : List (BitVec 2 × List Byte)) : List Instr :=
  .clear :: (prints.flatMap (fun p => expandPrint p.1 p.2) ++ [.render, .astep])

/-- A print's operands in the widths of their fields; only called on a print in range. -/
def printOperands (p : PrintSpec) : BitVec 2 × List Byte :=
  (BitVec.ofNat 2 p.start, p.text.map (BitVec.ofNat 8))

/-! ## Source lines -/

/-- Why a line does not assemble. -/
inductive AsmError where
  /-- The line is not of the syntax of R76 to R78. -/
  | malformed
  /-- "An operand out of its range is an assembly error" (R76). -/
  | outOfRange
  deriving DecidableEq, Repr

/-- The commands of a line whose operands are in range. -/
def expandLine : SourceLine → List Instr
  | .setup => [.setup]
  | .setinv b => [.setinv (b == 1)]
  | .autoen => [.autoen]
  | .setint n => [.setint (BitVec.ofNat 8 n)]
  | .clear => [.clear]
  | .pbegin s => [.pbegin (BitVec.ofNat 2 s)]
  | .pchar c => [.pchar (BitVec.ofNat 8 c)]
  | .pend => [.pend]
  | .render => [.render]
  | .astep => [.astep]
  | .print p => expandPrint (printOperands p).1 (printOperands p).2
  | .update ps => expandUpdate (ps.map printOperands)

/-- Assemble one parsed line: refused out of range, never wrapped (R76). -/
def assembleLine (l : SourceLine) : Except AsmError (List Instr) :=
  if l.wellFormed then .ok (expandLine l) else .error .outOfRange

/-! ## Tokens: the line as character codes -/

inductive Token where
  | word (codes : List Nat)
  | char (code : Nat)
  | text (codes : List Nat)
  | comma
  | opening
  | closing
  deriving DecidableEq, Repr

/-- Where the reader stands: in plain text with the codes of the word so far, or inside a quoted text (newest first). -/
inductive LexMode where
  | plain (word : List Nat)
  | quoted (text : List Nat)

/-- The word so far, if any, before the tokens that follow. -/
def flushWord (word : List Nat) (ts : List Token) : List Token :=
  match word with
  | [] => ts
  | _ :: _ => .word word.reverse :: ts

/-- A separator token for a code, if it is one: comma 44, braces 123 and 125. -/
def separatorToken (code : Nat) : Option Token :=
  match code with
  | 44 => some .comma
  | 123 => some .opening
  | 125 => some .closing
  | _ => none

/-- Cut a line into tokens: blanks 32, 9 separate, `;` 59 opens a comment, `'` 39 quotes one character, `"` 34 a text. -/
def lexLine : LexMode → List Nat → Option (List Token)
  | .plain word, [] => some (flushWord word [])
  | .quoted _, [] => none
  | .quoted text, c :: rest =>
    if c = 34 then (lexLine (.plain []) rest).map (Token.text text.reverse :: ·) else lexLine (.quoted (c :: text)) rest
  | .plain word, 39 :: c :: 39 :: rest => (lexLine (.plain []) rest).map (fun ts => flushWord word (.char c :: ts))
  | .plain word, c :: rest =>
    if c = 59 then some (flushWord word [])
    else if c = 34 then (lexLine (.quoted []) rest).map (flushWord word)
    else if c = 32 ∨ c = 9 then (lexLine (.plain []) rest).map (flushWord word)
    else match separatorToken c with
      | some t => (lexLine (.plain []) rest).map (fun ts => flushWord word (t :: ts))
      | none => lexLine (.plain (c :: word)) rest

/-- A digit in the given base, 10 or 16. -/
def digitValue (base code : Nat) : Option Nat :=
  let v := if 48 ≤ code ∧ code ≤ 57 then code - 48 else if 97 ≤ code ∧ code ≤ 102 then code - 87
    else if 65 ≤ code ∧ code ≤ 70 then code - 55 else 16
  if v < base then some v else none

/-- The value of a nonempty list of digits. -/
def digitsValue (base : Nat) (codes : List Nat) : Option Nat :=
  match codes with
  | [] => none
  | _ :: _ => codes.foldl (fun acc code => acc.bind fun a => (digitValue base code).map (a * base + ·)) (some 0)

/-- "Numbers are decimal or `0x` hex" (R76). -/
def parseNumber (codes : List Nat) : Option Nat :=
  match codes with
  | 48 :: 120 :: rest => digitsValue 16 rest
  | other => digitsValue 10 other

/-- The prints of an UPDATE up to its closing brace (R78). -/
def parsePrints : List Token → Option (List PrintSpec)
  | [.closing] => some []
  | .word [80, 82, 73, 78, 84] :: .text t :: rest => (parsePrints rest).map (PrintSpec.mk 0 t :: ·)
  | .word [80, 82, 73, 78, 84] :: .word n :: .comma :: .text t :: rest =>
    (parseNumber n).bind fun s => (parsePrints rest).map (PrintSpec.mk s t :: ·)
  | _ => none

/-- A command without operand: SETUP, AUTOEN, CLEAR, PEND, RENDER, ASTEP (R76). -/
def parsePlain (mnemonic : List Nat) : Option SourceLine :=
  match mnemonic with
  | [83, 69, 84, 85, 80] => some .setup
  | [65, 85, 84, 79, 69, 78] => some .autoen
  | [67, 76, 69, 65, 82] => some .clear
  | [80, 69, 78, 68] => some .pend
  | [82, 69, 78, 68, 69, 82] => some .render
  | [65, 83, 84, 69, 80] => some .astep
  | _ => none

/-- A command with a number: SETINV, SETINT, PBEGIN, PCHAR (R76). -/
def parseNumbered (mnemonic : List Nat) (n : Nat) : Option SourceLine :=
  match mnemonic with
  | [83, 69, 84, 73, 78, 86] => some (.setinv n)
  | [83, 69, 84, 73, 78, 84] => some (.setint n)
  | [80, 66, 69, 71, 73, 78] => some (.pbegin n)
  | [80, 67, 72, 65, 82] => some (.pchar n)
  | _ => none

/-- The line its tokens spell; a blank or comment line spells none. -/
def parseTokens : List Token → Except AsmError (Option SourceLine)
  | [] => .ok none
  | [.word m] => ((parsePlain m).map some).elim (.error .malformed) .ok
  | [.word [80, 67, 72, 65, 82], .char c] => .ok (some (.pchar c))
  | [.word [80, 82, 73, 78, 84], .text t] => .ok (some (.print (PrintSpec.mk 0 t)))
  | [.word [80, 82, 73, 78, 84], .word n, .comma, .text t] =>
    ((parseNumber n).map fun s => some (.print (PrintSpec.mk s t))).elim (.error .malformed) .ok
  | .word [85, 80, 68, 65, 84, 69] :: .opening :: rest =>
    ((parsePrints rest).map fun ps => some (.update ps)).elim (.error .malformed) .ok
  | [.word m, .word n] =>
    (((parseNumber n).bind (parseNumbered m)).map some).elim (.error .malformed) .ok
  | _ => .error .malformed

/-- Assemble one line of text (R76). -/
def assembleText (line : List Nat) : Except AsmError (List Instr) :=
  match lexLine (.plain []) line with
  | none => .error .malformed
  | some ts =>
    match parseTokens ts with
    | .error e => .error e
    | .ok none => .ok []
    | .ok (some l) => assembleLine l

/-- Assemble a program, one command per line, to its command words (R76). -/
def assembleProgram (lines : List (List Nat)) : Except AsmError (List Word) :=
  match lines with
  | [] => .ok []
  | l :: ls =>
    match assembleText l, assembleProgram ls with
    | .ok is, .ok ws => .ok (is.map encode ++ ws)
    | .error e, _ => .error e
    | .ok _, .error e => .error e

end Sys2Proof.Machine
end

