-- ==== Sys2Proof/Machine/Run.lean ====
section
/-! DEFINITION. Running several commands in a row (R59, R269): the composites PRINT and UPDATE as the block executes
them, a program as the host presents it, and a run with what is observed of it. -/

namespace Sys2Proof.Machine

/-- Commands one after another, each on the state the previous one left, with SIG as it stands (R59). -/
def execAll : List Instr → State → Host.Outcome State Fault Refusal
  | [], s => .next s
  | i :: is, s =>
    match exec i s with
    | .next t => execAll is t
    | .fault f => .fault f
    | .refused r => .refused r

/-- The host has these commands to present, each with the same SIG value (R268). -/
def presented (is : List Instr) (sig : Signal) : List Input :=
  is.map fun i => .command (encode i) sig

/-- "A run is a finite list of command words with their SIG values and transport answers" (R269), to be run from here. -/
def State.withRun (s : State) (commands : List (Word × Signal)) (answers : List Answer) : State :=
  { s with inbox := commands.map (fun c => .command c.1 c.2), answers := answers }

/-- This many steps, one after another. -/
def steps : Nat → State → Host.Outcome State Fault Refusal
  | 0, s => .next s
  | n + 1, s =>
    match step s with
    | .next t => steps n t
    | .fault f => .fault f
    | .refused r => .refused r

/-- The run, which "ends when the last command has executed" (R269): one step for each command word. -/
def State.run (s : State) (commands : List (Word × Signal)) (answers : List Answer) :
    Host.Outcome State Fault Refusal :=
  steps commands.length (s.withRun commands answers)

/-- The state elements of R20 alone: the port (R34), the response history (R38) and the model's own fields are emptied. -/
def State.block (s : State) : State :=
  { s with counts := [], refusals := [], inbox := [], sig := .absent, answers := [], draws := 0 }

/-- What is observed of a run (R269). -/
structure Observation where
  /-- The final state: the elements of R20. -/
  state : State
  /-- The request history (R37). -/
  reqs : List (Request × Bool)
  /-- The event history (R37). -/
  events : List Event
  /-- "the list of PEND counts" (R38). -/
  counts : List Nat
  deriving DecidableEq, Repr

/-- "The observation is the final state together with `reqs`, `events` and the list of PEND counts" (R269). -/
def State.observed (s : State) : Observation :=
  { state := s.block, reqs := s.reqs, events := s.events, counts := s.counts }

end Sys2Proof.Machine
end

