-- ==== Sys2Proof/Safety.lean ====
section
/-! DEFINITION. The terms claims are stated in: final states (R269), the command legality table (R212), the invariants
of a run (R22, R150, R212), what the histories say of the display (R37, R266). -/

namespace Sys2Proof.Machine

/-- "A run is final iff `refused` = 0 and `faulted` = none" (R269). -/
abbrev State.final (s : State) : Prop := s.refused = false ∧ s.faulted = none

/-- The command legality table (R212): `none` where the cell says yes, else the reason of the refusal. The last row of
each command is for CONFIG inside a print, a pair the table has no column for: the pseudocode of the command answers
it (log entry 12). -/
def legality : Instr → Phase → Bool → Option Refusal
  | .setup, .config, _ => none
  | .setup, .run, _ => some .phase
  | .setinv _, .config, _ => none
  | .setinv _, .run, _ => some .phase
  | .autoen, .config, _ => none
  | .autoen, .run, _ => some .phase
  | .setint _, _, false => none
  | .setint _, _, true => some .protocol
  | .clear, .run, false => none
  | .clear, .run, true => some .protocol
  | .clear, .config, _ => some .protocol
  | .pbegin _, .run, false => none
  | .pbegin _, .run, true => some .protocol
  | .pbegin _, .config, _ => some .protocol
  | .pchar _, .run, true => none
  | .pchar _, .run, false => some .protocol
  | .pchar _, .config, _ => some .protocol
  | .pend, .run, true => none
  | .pend, .run, false => some .protocol
  | .pend, .config, _ => some .protocol
  | .render, .run, false => none
  | .render, .run, true => some .protocol
  | .render, .config, _ => some .protocol
  | .astep, .run, false => none
  | .astep, .run, true => some .protocol
  | .astep, .config, _ => some .protocol

/-- Bit 7 of every cell is 0 (R22). -/
abbrev CellsNarrow (s : State) : Prop := ∀ k : Fin 4, s.cell[k.val].getLsbD 7 = false

/-- The print registers between PBEGIN and PEND (R35, R150): all three hold values, `start <= cursor <= 4`, and the
print has stopped only at cursor 4. -/
def PrintRange (s : State) : Prop :=
  s.inPrint = true →
    ∃ start cursor stopped, s.start = some start ∧ s.cursor = some cursor ∧ s.stopped = some stopped ∧
      start.toNat ≤ cursor.toNat ∧ cursor.toNat ≤ 4 ∧ (stopped = true → cursor.toNat = 4)

/-- "In phase CONFIG, in_print is always 0" (R212). -/
abbrev ConfigNotPrinting (s : State) : Prop := s.phase = .config → s.inPrint = false

/-- The ROMs as a legal configuration loads them (R25 (1) to (3), R27, R28). -/
def Rom.legal (rom : Rom) : Prop :=
  isBijection rom.permN = true ∧ isBijection rom.permI = true ∧ rom.thr.length = rom.lvl.length ∧
    rom.glyph.toList.all sentinelWord = true ∧ glyphConstraints rom.glyph = true

/-- The value the block last wrote with success to a device address (R37): "a claim about the WR entries of `reqs` whose
`ok` is 1". It says nothing of what the controller holds (R269). -/
def lastWritten (a : Byte) (reqs : List (Request × Bool)) : Option Byte :=
  reqs.foldl (fun v entry =>
    match entry with
    | (.wr b x, true) => if b = a then some x else v
    | _ => v) none

/-- The events a list of answered requests raises: one TransportFailure for each `ok` = 0, in order (R233, R238). -/
def failureEvents (entries : List (Request × Bool)) : List Event :=
  entries.filterMap fun e => if e.2 then none else some (.transportFailure e.1)

/-- The events of the warning: one UnsupportedGlyph if U = 1, else none (R103). -/
def warningOf (rom : Rom) (c : Byte) : List Event :=
  if (encodeGlyph rom c).1 then [.unsupportedGlyph c] else []

/-- The events of a sample: one SignalSourceMismatch if SIG is Absent, else none (R193). -/
def mismatchOf (v : Signal) : List Event := if v = .absent then [.signalSourceMismatch] else []

/-- The characters of a text that a print processes (R149): those before and including the first that finds no cell. -/
def processed (cursor start : Nat) : List Byte → List Byte
  | [] => []
  | c :: cs =>
    if c = colonChar then c :: processed (if cursor = start then cursor + 1 else cursor) start cs
    else if cursor < 4 then c :: processed (cursor + 1) start cs
    else [c]

/-- The character of a text that finds no cell, if there is one (R145, R149). -/
def overflowing (cursor start : Nat) : List Byte → List Byte
  | [] => []
  | c :: cs =>
    if c = colonChar then overflowing (if cursor = start then cursor + 1 else cursor) start cs
    else if cursor < 4 then overflowing (cursor + 1) start cs
    else [c]

/-- What a text asks of the cells from its start on, in order: nothing of the cell a leading colon skips (R143 (b)), then
one cell for each character that is no colon (R144). -/
def askedCells (text : List Byte) : List (Option Byte) :=
  (if text.head? = some colonChar then [none] else []) ++ (text.filter (fun c => c != colonChar)).map some

/-- How many positions a text asks for (R147). -/
def positionsAsked (text : List Byte) : Nat := (askedCells text).length

/-- PCHAR takes this code under the policy in force: every code under clamp, a code of 0x20..0x7E under reject (R6, D7). -/
abbrev Rom.accepts (rom : Rom) (c : Byte) : Prop := rom.oorPolicy = .clamp ∨ 0x20 ≤ c.toNat ∧ c.toNat ≤ 0x7E

/-- An enabled ASTEP takes this signal under the policy in force: every signal under zero, all but NaN under hold (R6, D14). -/
abbrev Rom.samples (rom : Rom) (v : Signal) : Prop := rom.nanPolicy = .zero ∨ v ≠ .nan

/-- The signal on the port exceeds a guarded threshold, NaN and Absent counting as 0 (R193, R194). -/
def State.exceeds (s : State) (t : Rat) : Prop :=
  match s.sig with
  | .absent => t * s.rom.guard < 0
  | .nan => t * s.rom.guard < 0
  | .posInf => True
  | .negInf => False
  | .fin q => t * s.rom.guard < q

/-- The answers the next n requests get (R56). -/
def State.oks (s : State) (n : Nat) : List Bool := (List.range n).map fun k => (s.answerAt k).ok

/-- The device addresses and command bytes the block may use (R53). -/
def allowedRequest : Request → Prop
  | .wr a _ => a = 0x00 ∨ a = 0x02 ∨ a = 0x04 ∨ a = 0x06 ∨ a = 0x08
  | .cmd k => k = 0x21 ∨ k = 0x81 ∨ 0xE0 ≤ k.toNat ∧ k.toNat ≤ 0xEF
  | .rd k => k = 0x21 ∨ k = 0x81 ∨ 0xE0 ≤ k.toNat ∧ k.toNat ≤ 0xEF

/-- The code of an event (R230). -/
def Event.code : Event → Nat
  | .unsupportedGlyph _ => 1
  | .bufferOverflow _ => 2
  | .transportFailure _ => 3
  | .signalSourceMismatch => 4

end Sys2Proof.Machine
end

