-- ==== Sys2Proof/Certificates/Slice0/Obligations.lean ====
section
/-! DEFINITION. The statements for the provers, from the numbered rules of the spec. -/

open Sys2Proof Sys2Proof.Machine

/-! ## Encoding -/

/-- A few words written out from the encoding (R71, R73, R74) decode to what they stand for. -/
def Obligations.SpecWordsDecode : Prop :=
  decode 0b0001000000000000 = .ok .setup ∧ decode 0b0010000000000001 = .ok (.setinv true) ∧
  decode 0b0010000000000000 = .ok (.setinv false) ∧ decode 0b0011000000000000 = .ok .autoen ∧
  decode 0b0100000011001000 = .ok (.setint 200) ∧ decode 0b0101000000000000 = .ok .clear ∧
  decode 0b0110000000000010 = .ok (.pbegin 2) ∧ decode 0b0111000000110001 = .ok (.pchar 0x31) ∧
  decode 0b1000000000000000 = .ok .pend ∧ decode 0b1001000000000000 = .ok .render ∧
  decode 0b1010000000000000 = .ok .astep ∧ decode 0x2002 = .error .reservedBits ∧
  decode 0xFFFF = .error .reservedOpcode

/-- R70 to R72: the decoder reads back every command from its word, at every operand. -/
def Obligations.DecodeOfEncode : Prop :=
  ∀ i : Instr, i.wellFormed = true → decode (encode i) = .ok i

/-- R70 to R73: a word that decodes is the word of its command, so the decoder drops no bit. -/
def Obligations.EncodeOfDecode : Prop :=
  ∀ (w : Word) (i : Instr), decode w = .ok i → encode i = w

/-- R71: "A word w selects a command when (w & mask) == match", for the ten commands of the map; its reserved rows
select no command. -/
def Obligations.MaskAndMatchSelectTheCommand : Prop :=
  (∀ (w : Word) (i : Instr), decode w = .ok i → selects (i.matchWord, i.maskWord) w = true) ∧
  (∀ (w : Word) (row : Word × Word), row ∈ opcodeRows → selects row w = true →
    ∃ i, decode w = .ok i ∧ (i.matchWord, i.maskWord) = row) ∧
  ∀ w : Word, (w &&& 0xF000 = 0x0000 ∨ 0xB000 ≤ w.toNat) → decode w = .error .reservedOpcode

/-- R72: each operand is the low bits of the word its field names, unsigned. -/
def Obligations.OperandsAreTheLowBits : Prop :=
  ∀ (w : Word) (i : Instr), decode w = .ok i → i.operand = w.toNat % i.operandBound

/-- R73, R74, and R75, of which the spec marks "No two rows overlap" as derived: each word is exactly one row of the
map, or refused for its reserved bits, or for its reserved opcode. -/
def Obligations.EveryWordIsOneRowOrRefused : Prop :=
  ∀ w : Word,
    ((∃ i, decode w = .ok i) ∧ ∃! row, row ∈ opcodeRows ∧ selects row w = true) ∨
    (decode w = .error .reservedBits ∧ 0x1 ≤ (opField w).toNat ∧ (opField w).toNat ≤ 0xA ∧
      ∀ row ∈ opcodeRows, selects row w = false) ∨
    (decode w = .error .reservedOpcode ∧ ((opField w).toNat = 0x0 ∨ 0xB ≤ (opField w).toNat) ∧
      ∀ row ∈ opcodeRows, selects row w = false)

/-- R76 to R78: each line has its range (b 0..1, n and c 0..255, s 0..3), outside of which it is an error; in it a command is
its own, and PRINT and UPDATE expand as the rules say. -/
def Obligations.SourceLinesExpand : Prop :=
  (∀ l : SourceLine, l.wellFormed = false → assembleLine l = .error .outOfRange) ∧
  (assembleLine .setup = .ok [.setup] ∧ assembleLine .autoen = .ok [.autoen] ∧ assembleLine .clear = .ok [.clear] ∧
    assembleLine .pend = .ok [.pend] ∧ assembleLine .render = .ok [.render] ∧ assembleLine .astep = .ok [.astep]) ∧
  (assembleLine (.setinv 0) = .ok [.setinv false] ∧ assembleLine (.setinv 1) = .ok [.setinv true] ∧
    ∀ b, 1 < b → assembleLine (.setinv b) = .error .outOfRange) ∧
  (∀ n, assembleLine (.setint n) = if n ≤ 255 then .ok [.setint (BitVec.ofNat 8 n)] else .error .outOfRange) ∧
  (∀ s, assembleLine (.pbegin s) = if s ≤ 3 then .ok [.pbegin (BitVec.ofNat 2 s)] else .error .outOfRange) ∧
  (∀ c, assembleLine (.pchar c) = if c ≤ 255 then .ok [.pchar (BitVec.ofNat 8 c)] else .error .outOfRange) ∧
  (∀ s text, assembleLine (.print ⟨s, text⟩) = if s ≤ 3 ∧ ∀ c ∈ text, c ≤ 255 then
      .ok (.pbegin (BitVec.ofNat 2 s) :: (text.map (fun c => Instr.pchar (BitVec.ofNat 8 c)) ++ [.pend]))
    else .error .outOfRange) ∧
  ∀ prints : List PrintSpec, assembleLine (.update prints) = if ∀ p ∈ prints, p.start ≤ 3 ∧ ∀ c ∈ p.text, c ≤ 255 then
      .ok ([.clear] ++
        (prints.map (fun p => expandPrint (BitVec.ofNat 2 p.start) (p.text.map (BitVec.ofNat 8)))).flatten ++
        [.render, .astep])
    else .error .outOfRange

/-! ## The step -/

/-- R21, R59, R268: a step at a presented command word runs the decoded command, the word taken from the inbox and its
SIG value on the port. -/
def Obligations.StepRunsDecodedCommand : Prop :=
  ∀ (s : State) (w : Word) (sig : Signal) (rest : List Input) (i : Instr),
    s.inbox = .command w sig :: rest → decode w = .ok i → i.wellFormed = true →
      step s = exec i { s with inbox := rest, sig := sig }

/-- R73, R74, R236: a reserved word sets the refused mark and changes no state element else. That its reason is kept in
`refusals` is the model's choice (log entry 4). -/
def Obligations.StepRefusesReservedWord : Prop :=
  ∀ (s : State) (w : Word) (sig : Signal) (rest : List Input), s.inbox = .command w sig :: rest →
    (((opField w).toNat = 0x0 ∨ 0xB ≤ (opField w).toNat) →
      step s = .next { s with
        inbox := rest, sig := sig, refused := true, refusals := s.refusals ++ [.reservedOpcode] }) ∧
    (0x1 ≤ (opField w).toNat → (opField w).toNat ≤ 0xA → (∀ row ∈ opcodeRows, selects row w = false) →
      step s = .next { s with
        inbox := rest, sig := sig, refused := true, refusals := s.refusals ++ [.reservedBits] })

/-- No step stops the machine: refusals and faults are marks in a next state (log entries 2 and 3; "No condition in this
core is fatal"); with nothing presented the block waits, by the model's reading of "waits for its first command" (R260,
log entry 1). -/
def Obligations.StepAlwaysAnswersNext : Prop :=
  ∀ s : State, (∃ t, step s = .next t) ∧ (s.inbox = [] → step s = .next s)

/-! ## Reset -/

/-- R40, R260: a reset with a legal configuration leaves the values of the table, in either phase. That it clears the marks
which no command clears, and leaves what the host has still to present, is log entry 14. -/
def Obligations.ResetLeavesTableValues : Prop :=
  ∀ (s : State) (c : Config) (rest : List Input), s.inbox = .reset c :: rest → configValid c = true →
    ∃ t, step s = .next t ∧ (∀ k : Fin 4, t.cell[k.val] = 0x00) ∧ t.colon = false ∧ t.inverted = false ∧
      t.autoEn = false ∧ t.phase = .config ∧ t.level = c.levelReset ∧ t.inPrint = false ∧ t.start = none ∧
      t.cursor = none ∧ t.stopped = none ∧ t.refused = false ∧ t.faulted = none ∧ t.reqs = [] ∧ t.events = [] ∧
      t.rom = loadRom c ∧ t.rom.glyph = c.glyphRom.words ∧ t.rom.permN = c.permN ∧ t.rom.permI = c.permI ∧
      t.rom.colonOn = c.colonOn ∧
      t.rom.thr.map Number.fin = c.thr ∧ t.inbox = rest

/-- R40, R6, R7: `State.reset` holds the table's values, the guard 103/100 and the spec's own policies. -/
def Obligations.ResetStateHoldsTableValues : Prop :=
  State.reset.cell = #v[0x00, 0x00, 0x00, 0x00] ∧ State.reset.colon = false ∧ State.reset.inverted = false ∧
  State.reset.autoEn = false ∧ State.reset.phase = .config ∧ State.reset.level = Config.openParams.levelReset ∧
  State.reset.inPrint = false ∧ State.reset.start = none ∧ State.reset.cursor = none ∧ State.reset.stopped = none ∧
  State.reset.faulted = none ∧ State.reset.reqs = [] ∧ State.reset.events = [] ∧
  State.reset.rom.guard = 103 / 100 ∧ State.reset.rom.oorPolicy = .clamp ∧ State.reset.rom.nanPolicy = .zero ∧
  State.reset.refused = !configValid Config.installed

/-- R236, R260: a bad configuration is refused at reset, before any command. That the other elements then hold the reset
values is the model's choice (log entry 9). -/
def Obligations.ResetRefusesBadConfig : Prop :=
  ∀ (s : State) (c : Config) (rest : List Input), s.inbox = .reset c :: rest → configValid c = false →
    ∃ t, step s = .next t ∧ t.refused = true ∧ t.refusals = [.configInvalid] ∧ t.reqs = [] ∧ t.events = [] ∧
      t.phase = .config

/-- R27, R28, R25 (1), R236: the check says exactly what the list of ConfigInvalid says. -/
def Obligations.ConfigCheckIsTheList : Prop :=
  ∀ c : Config, configValid c = true ↔
    ((∀ k < 7, ∃! i : Fin 7, c.permN[i.val].toNat = k) ∧ (∀ k < 7, ∃! i : Fin 7, c.permI[i.val].toNat = k) ∧
      c.thr.length = c.lvlCfg.length ∧ (∀ m, c.nMax = some m → c.thr.length ≤ m) ∧
      (∀ t ∈ c.thr, ∃ q, t = .fin q) ∧
      ∀ i : Fin 95, c.glyphRom.words[i.val].getLsbD 7 = true → c.glyphRom.words[i.val].toNat % 128 = 0x7F)

/-- R29: each configured level is stored as min(15, max(0, level)) when the configuration is loaded, and no command
writes it. -/
def Obligations.LevelsClampedAtLoad : Prop :=
  (∀ c : Config, (State.boot c).rom.lvl.length = c.lvlCfg.length ∧
    ∀ (i : Nat) (l : Int), c.lvlCfg[i]? = some l →
      ∃ v : BitVec 4, (State.boot c).rom.lvl[i]? = some v ∧ (v.toNat : Int) = min 15 (max 0 l)) ∧
  ∀ (i : Instr) (s t : State), exec i s = .next t → t.rom.lvl = s.rom.lvl

/-! ## Legality -/

/-- R212, R236: a command is executed in the states the table marks yes, and refused with the table's reason in every other
one, changing the refused mark and no state element else. That the reason is kept in `refusals` is the model's choice (log
entry 4). The premise on the phase is the table's own ("In phase CONFIG, in_print is always 0"); the premise on the code of
PCHAR leaves out what the reject policy of R6 refuses besides. -/
def Obligations.CommandLegalityTable : Prop :=
  ∀ (i : Instr) (s : State), ConfigNotPrinting s →
    (∀ r, legality i s.phase s.inPrint = some r →
      exec i s = .next { s with refused := true, refusals := s.refusals ++ [r] }) ∧
    (legality i s.phase s.inPrint = none → (∀ c, i = .pchar c → s.rom.accepts c) →
      ∃ t, exec i s = .next t ∧ t.refused = s.refused ∧ t.refusals = s.refusals)

/-- R6, D7: under OOR_POLICY = reject PCHAR of a code outside 0x20..0x7E is refused. The reason's name is the model's
(log entry 10). -/
def Obligations.RejectPolicyRefusesCode : Prop :=
  ∀ (c : BitVec 8) (s : State), s.phase = .run → s.inPrint = true → s.rom.oorPolicy = .reject →
    (c.toNat < 0x20 ∨ 0x7E < c.toNat) →
      exec (.pchar c) s = .next { s with refused := true, refusals := s.refusals ++ [.codeRejected] }

/-! ## Control and intensity commands -/

/-- R210: SETUP's four requests, one TransportFailure per failed one, phase RUN whatever the answers. That the answers come
from the front of the list the environment has ready, one per request, is the model's form of R56 (log entry 6). -/
def Obligations.SetupStartsDisplay : Prop :=
  ∀ s : State, s.phase = .config →
    ∃ t, exec .setup s = .next t ∧
      t = { s with
        phase := .run, reqs := t.reqs, events := t.events, answers := s.answers.drop 4, draws := s.draws + 4 } ∧
      ∃ entries, entries.map Prod.fst = [Request.cmd 0x21, .rd 0x21, .cmd 0x81, .rd 0x81] ∧
        entries.map Prod.snd = [0, 1, 2, 3].map (fun k => (s.answerAt k).ok) ∧
        t.reqs = s.reqs ++ entries ∧ t.events = s.events ++ failureEvents entries

/-- R211: in phase CONFIG, inverted <- b and nothing else. -/
def Obligations.SetinvSetsOrientation : Prop :=
  ∀ (b : Bool) (s : State), s.phase = .config → exec (.setinv b) s = .next { s with inverted := b }

/-- R191: in phase CONFIG, auto_en <- 1 and nothing else. -/
def Obligations.AutoenEnablesAuto : Prop :=
  ∀ s : State, s.phase = .config → exec .autoen s = .next { s with autoEn := true }

/-- R190: outside a print, in both phases, level <- min(n, 15) and nothing else. -/
def Obligations.SetintClampsLevel : Prop :=
  ∀ (n : BitVec 8) (s : State), s.inPrint = false →
    ∃ l : BitVec 4, l.toNat = min n.toNat 15 ∧ exec (.setint n) s = .next { s with level := some l }

/-- R196: with auto_en = 0 ASTEP changes nothing. -/
def Obligations.AstepInertWhenDisabled : Prop :=
  ∀ s : State, s.phase = .run → s.inPrint = false → s.autoEn = false → exec .astep s = .next s

/-- R192, R193, R195: with auto_en = 1 ASTEP stores the level of the last satisfied entry in stored order, or 0, logs one
SignalSourceMismatch where SIG is Absent, and changes nothing else. The premise on the signal leaves out NaN under the hold
policy of R6. -/
def Obligations.AstepStoresLastSatisfied : Prop :=
  ∀ s : State, s.phase = .run → s.inPrint = false → s.autoEn = true → s.rom.samples s.sig →
    s.rom.thr.length = s.rom.lvl.length →
    ∃ l : BitVec 4,
      exec .astep s = .next { s with
        level := some l, events := s.events ++ (if s.sig = .absent then [.signalSourceMismatch] else []) } ∧
      ((∀ t ∈ s.rom.thr, ¬ s.exceeds t) → l = 0) ∧
      ∀ (j : Nat) (t : Rat), s.rom.thr[j]? = some t → s.exceeds t →
        (∀ (k : Nat) (u : Rat), j < k → s.rom.thr[k]? = some u → ¬ s.exceeds u) → s.rom.lvl[j]? = some l

/-- R6, D14: under NAN_POLICY = hold a not-a-number signal leaves the level (log entry 11). -/
def Obligations.HoldPolicyKeepsLevel : Prop :=
  ∀ s : State, s.phase = .run → s.inPrint = false → s.rom.nanPolicy = .hold → s.sig = .nan →
    exec .astep s = .next s

/-- R194: the comparison is exact and strict, with the guard 103/100 on the threshold. -/
def Obligations.SatisfactionIsStrict : Prop :=
  ∀ t : Rat, (∀ q : Rat, satisfies (103 / 100) (.fin q) t = true ↔ q > t * (103 / 100)) ∧
    satisfies (103 / 100) .posInf t = true ∧ satisfies (103 / 100) .negInf t = false

/-- R193, and R197, which the spec marks as derived: NaN and Absent count as 0 and every other signal as itself; ASTEP stores
the level of the signal and the table alone, whatever the previous level (6); no entry gives 0 (1), a satisfied last entry
gives its level, be it 0 or lower than those before (2), a negative threshold is satisfied by NaN and Absent (3), a threshold
of 0 is not (4), PosInf takes the last level and NegInf gives 0 (5). The premise on the signal leaves out NaN under the hold
policy of R6. -/
def Obligations.AstepCornerCases : Prop :=
  (effective .nan = .fin 0 ∧ effective .absent = .fin 0 ∧ effective .posInf = .posInf ∧ effective .negInf = .negInf ∧
    ∀ q : Rat, effective (.fin q) = .fin q) ∧
  (∀ (s : State) (l : Option (BitVec 4)), s.phase = .run → s.inPrint = false → s.autoEn = true →
    s.rom.samples s.sig → s.rom.thr.length = s.rom.lvl.length →
    ∃ t t', exec .astep s = .next t ∧ exec .astep { s with level := l } = .next t' ∧ t = t' ∧
      t.level = some (nextLevel s.rom s.sig)) ∧
  (∀ rom : Rom, rom.thr = [] → ∀ v, nextLevel rom v = 0) ∧
  (∀ (rom : Rom) (ts : List Rat) (ls : List (BitVec 4)) (t : Rat) (l : BitVec 4) (v : Signal),
    ts.length = ls.length → rom.thr = ts ++ [t] → rom.lvl = ls ++ [l] →
    satisfies rom.guard (effective v) t = true → nextLevel rom v = l) ∧
  (∀ t : Rat, t < 0 → t * (103 / 100) < t ∧
    satisfies (103 / 100) (effective .nan) t = true ∧ satisfies (103 / 100) (effective .absent) t = true) ∧
  (∀ guard : Rat, satisfies guard (.fin 0) 0 = false) ∧
  ∀ rom : Rom, rom.thr.length = rom.lvl.length →
    nextLevel rom .posInf = rom.lvl.getLast?.getD 0 ∧ nextLevel rom .negInf = 0

/-- R198, which the spec marks as derived: for thresholds and levels in ascending order the level does not decrease as
the signal grows. -/
def Obligations.LevelGrowsWithSignal : Prop :=
  ∀ (rom : Rom) (q r : Rat), 0 ≤ rom.guard → rom.thr.length = rom.lvl.length → rom.thr.Pairwise (· ≤ ·) →
    rom.lvl.Pairwise (fun a b => a.toNat ≤ b.toNat) → q ≤ r →
      (nextLevel rom (.fin q)).toNat ≤ (nextLevel rom (.fin r)).toNat

/-! ## Print commands -/

/-- R148: CLEAR blanks the four cells and the colon flag and nothing else; twice is as once. -/
def Obligations.ClearBlanksBuffer : Prop :=
  ∀ s : State, s.phase = .run → s.inPrint = false →
    exec .clear s = .next { s with cell := #v[0x00, 0x00, 0x00, 0x00], colon := false } ∧
    execAll [.clear, .clear] s = execAll [.clear] s

/-- R141: PBEGIN begins a print at its start position and touches neither cells nor colon. -/
def Obligations.PbeginBeginsPrint : Prop :=
  ∀ (p : BitVec 2) (s : State), s.phase = .run → s.inPrint = false →
    ∃ c : BitVec 3, c.toNat = p.toNat ∧ exec (.pbegin p) s = .next { s with
      inPrint := true, start := some p, cursor := some c, stopped := some false }

/-- R143, whose net effect the spec marks as derived: the colon sets the flag and writes no cell; the cursor stays, or
advances by one where it is at the start. -/
def Obligations.PcharColonBranch : Prop :=
  ∀ (s : State) (cursor : BitVec 3) (start : BitVec 2), s.phase = .run → s.inPrint = true →
    s.stopped = some false → s.cursor = some cursor → s.start = some start →
    ∃ next : BitVec 3, (cursor.toNat ≠ start.toNat → next = cursor) ∧
      (cursor.toNat = start.toNat → next.toNat = start.toNat + 1) ∧
      exec (.pchar 0x3A) s = .next { s with
        colon := true, cursor := some next,
        events := s.events ++ (if (encodeGlyph s.rom 0x3A).1 then [.unsupportedGlyph 0x3A] else []) }

/-- R144: any other character at a cursor below 4 writes its remapped pattern into the cell at the cursor, and into no
other, and advances the cursor by one; an unsupported one is warned about first and shows 0x7F. The premise on the
policy is the spec's choice (R6). -/
def Obligations.PcharWriteBranch : Prop :=
  ∀ (c : BitVec 8) (s : State) (cursor : BitVec 3) (h : cursor.toNat < 4), s.phase = .run → s.inPrint = true →
    s.rom.accepts c → s.stopped = some false → s.cursor = some cursor → c ≠ 0x3A →
    ∃ next : BitVec 3, next.toNat = cursor.toNat + 1 ∧
      (s.rom.legal → (encodeGlyph s.rom c).1 = true → remap s.rom s.inverted (encodeGlyph s.rom c).2 = 0x7F) ∧
      exec (.pchar c) s = .next { s with
        cell := s.cell.set cursor.toNat ((remap s.rom s.inverted (encodeGlyph s.rom c).2).setWidth 8) h
        cursor := some next,
        events := s.events ++ (if (encodeGlyph s.rom c).1 then [.unsupportedGlyph c] else []) }

/-- R145: any other character at a cursor of 4 or more writes no cell, stops the print and does not advance; the warning
comes before the overflow event. -/
def Obligations.PcharOverflowBranch : Prop :=
  ∀ (c : BitVec 8) (s : State) (cursor : BitVec 3), 4 ≤ cursor.toNat → s.phase = .run → s.inPrint = true →
    s.rom.accepts c → s.stopped = some false → s.cursor = some cursor → c ≠ 0x3A →
      exec (.pchar c) s = .next { s with
        stopped := some true,
        events := s.events ++ (if (encodeGlyph s.rom c).1 then [.unsupportedGlyph c] else []) ++ [.bufferOverflow c] }

/-- R146, of which the spec marks what follows from R142 as derived: while the print has stopped, PCHAR does nothing,
the colon among them. -/
def Obligations.PcharAfterOverflow : Prop :=
  ∀ (c : BitVec 8) (s : State), s.phase = .run → s.inPrint = true → s.rom.accepts c →
    s.stopped = some true → exec (.pchar c) s = .next s

/-- R147: PEND returns cursor - start, a number in [0,4], and leaves the print. -/
def Obligations.PendReturnsCount : Prop :=
  ∀ (s : State) (cursor : BitVec 3) (start : BitVec 2), s.phase = .run → s.inPrint = true →
    s.cursor = some cursor → s.start = some start → PrintRange s →
    ∃ n : Nat, n ≤ 4 ∧ start.toNat + n = cursor.toNat ∧
      exec .pend s = .next { s with inPrint := false, counts := s.counts ++ [n] }

/-- R9, R237: a print command that reads an unset register writes the fault Unwritten and nothing else. -/
def Obligations.UnsetPrintRegisterFaults : Prop :=
  (∀ (c : BitVec 8) (s : State), s.phase = .run → s.inPrint = true → s.rom.accepts c →
    (s.stopped = none ∨ s.stopped = some false ∧ (s.cursor = none ∨ c = 0x3A ∧ s.start = none)) →
      exec (.pchar c) s = .next { s with faulted := some .unwritten }) ∧
  ∀ s : State, s.phase = .run → s.inPrint = true → (s.cursor = none ∨ s.start = none) →
    exec .pend s = .next { s with faulted := some .unwritten }

/-! ## Glyphs and permutations -/

/-- R100: an in-range code encodes to its ROM word, U = bit 7 and P = bits 6:0; any other code to the sentinel. -/
def Obligations.EncodeReadsRomWord : Prop :=
  (∀ (rom : Rom) (c : Byte) (_ : 0x20 ≤ c.toNat) (_ : c.toNat ≤ 0x7E),
    (encodeGlyph rom c).1 = (rom.glyph[c.toNat - 0x20]).getLsbD 7 ∧
    (encodeGlyph rom c).2.toNat = (rom.glyph[c.toNat - 0x20]).toNat % 128) ∧
  ∀ (rom : Rom) (c : Byte), (c.toNat < 0x20 ∨ 0x7E < c.toNat) → encodeGlyph rom c = (true, 0x7F)

/-- R104: the encoder reads the glyph ROM only, and gives equal codes equal results at every step; its laws, which the spec
marks as derived: (1) U = 1 implies the sentinel, (2) every code outside the range is the sentinel, (3) '#' and '$' are the
sentinel, on legal ROMs, which a configuration that passes the check always loads; and R25 (3): '1' to '4' are supported
whatever the configuration. -/
def Obligations.EncoderLaws : Prop :=
  (∀ rom rom' : Rom, rom.glyph = rom'.glyph → ∀ c, encodeGlyph rom c = encodeGlyph rom' c) ∧
  (∀ (i : Instr) (s t : State), exec i s = .next t → ∀ c, encodeGlyph t.rom c = encodeGlyph s.rom c) ∧
  (∀ rom : Rom, rom.legal →
    (∀ c, (encodeGlyph rom c).1 = true → (encodeGlyph rom c).2 = 0x7F) ∧
    (∀ c : Byte, (c.toNat < 0x20 ∨ 0x7E < c.toNat) → encodeGlyph rom c = (true, 0x7F)) ∧
    encodeGlyph rom 0x23 = (true, 0x7F) ∧ encodeGlyph rom 0x24 = (true, 0x7F)) ∧
  (∀ c : Config, configValid c = true → (loadRom c).legal) ∧
  ∀ (c : Config) (x : Byte), x ∈ [0x31, 0x32, 0x33, 0x34] → (encodeGlyph (loadRom c) x).1 = false

/-- R120, R122: PERM_0 is PERM_N and PERM_1 is PERM_I; the inverse, the round trip, and the five laws, which the spec marks
as derived. -/
def Obligations.RemapBijectionLaws : Prop :=
  (∀ rom : Rom, permOf rom false = rom.permN ∧ permOf rom true = rom.permI) ∧
  ∀ (rom : Rom) (o : Bool), isBijection (permOf rom o) = true →
    (∀ (q : Pattern) (i : Fin 7), (unmap rom o q).getLsbD i.val = q.getLsbD (permOf rom o)[i.val].toNat) ∧
    (∀ p, unmap rom o (remap rom o p) = p) ∧ (∀ q, remap rom o (unmap rom o q) = q) ∧
    remap rom o 0x00 = 0x00 ∧ remap rom o 0x7F = 0x7F ∧
    (∀ p, ((List.range 7).filter (remap rom o p).getLsbD).length = ((List.range 7).filter p.getLsbD).length) ∧
    (∀ p q, remap rom o (p ||| q) = remap rom o p ||| remap rom o q) ∧
    (∀ p q, remap rom o (p &&& q) = remap rom o p &&& remap rom o q) ∧
    ∀ i : Fin 7, remap rom o (1#7 <<< i.val) = 1#7 <<< (permOf rom o)[i.val].toNat

/-- R124: the cells in order, or reversed when inverted. -/
def Obligations.CellOrderMux : Prop :=
  ∀ (s : State) (a b c d : Byte), s.cell = #v[a, b, c, d] →
    (s.inverted = false → [0, 1, 2, 3].map (cellsel s) = [a, b, c, d]) ∧
    (s.inverted = true → [0, 1, 2, 3].map (cellsel s) = [d, c, b, a])

/-! ## RENDER -/

/-- R170 to R175: the seven requests in order, each with its own answer, one TransportFailure per failed one, and no
other change. -/
def Obligations.RenderHandsFrame : Prop :=
  ∀ (s : State) (level : BitVec 4), s.phase = .run → s.inPrint = false → s.level = some level →
    ∃ t, exec .render s = .next t ∧
      t = { s with reqs := t.reqs, events := t.events, answers := t.answers, draws := t.draws } ∧
      ∃ entries, entries.map Prod.fst =
          [Request.wr 0x00 (if s.inverted then s.cell[3] else s.cell[0]),
           .wr 0x02 (if s.inverted then s.cell[2] else s.cell[1]),
           .wr 0x06 (if s.inverted then s.cell[1] else s.cell[2]),
           .wr 0x08 (if s.inverted then s.cell[0] else s.cell[3]),
           .wr 0x04 (if s.colon then s.rom.colonOn else 0x00),
           .cmd (0xE0 ||| level.setWidth 8), .rd (0xE0 ||| level.setWidth 8)] ∧
        entries.map Prod.snd = [0, 1, 2, 3, 4, 5, 6].map (fun k => (s.answerAt k).ok) ∧
        t.reqs = s.reqs ++ entries ∧ t.events = s.events ++ failureEvents entries

/-- R33, R237, R238: RENDER with the level unset writes the fault LevelUnset and emits no request. -/
def Obligations.RenderUnsetLevelFaults : Prop :=
  ∀ s : State, s.phase = .run → s.inPrint = false → s.level = none →
    exec .render s = .next { s with faulted := some .levelUnset }

/-- R176, which the spec marks as derived: RENDER changes no block state; two RENDERs with no command between them emit the
same seven requests. That each takes seven answers from the front of the list the environment has ready is the model's form
of R56 (log entry 6). -/
def Obligations.RenderTwiceSameRequests : Prop :=
  ∀ (s : State) (level : BitVec 4), s.phase = .run → s.inPrint = false → s.level = some level →
    ∃ t u, exec .render s = .next t ∧ exec .render t = .next u ∧ ∃ first second,
      t = { s with reqs := t.reqs, events := t.events, answers := s.answers.drop 7, draws := s.draws + 7 } ∧
      t.reqs = s.reqs ++ first ∧ u.reqs = t.reqs ++ second ∧ first.map Prod.fst = second.map Prod.fst ∧
      first.length = 7 ∧ second.map Prod.snd = [7, 8, 9, 10, 11, 12, 13].map (fun k => (s.answerAt k).ok)

/-- R37, R266: after a RENDER the last byte written with success to a cell's address is the frame's byte where the write
was answered 1, and what it was before where it was not. -/
def Obligations.FailedWriteKeepsOldByte : Prop :=
  ∀ (s : State) (level : BitVec 4), s.phase = .run → s.inPrint = false → s.level = some level →
    ∃ t, exec .render s = .next t ∧
      (∀ k : Fin 4, lastWritten addrCell[k.val] t.reqs =
        if (s.answerAt k.val).ok then some (cellsel s k) else lastWritten addrCell[k.val] s.reqs) ∧
      lastWritten addrColon t.reqs = if (s.answerAt 4).ok then some (colonByte s) else lastWritten addrColon s.reqs

/-- R263: in the order of a cycle the frame carries the level from before ASTEP, and the next frame carries the new one,
whatever CLEAR and the prints between them do; a program that issues ASTEP before RENDER has the new one in the same frame.
The premises on codes and signals leave out what the alternatives of R6 refuse or hold. -/
def Obligations.DimmingLatency : Prop :=
  ∀ (s : State) (level : BitVec 4), s.phase = .run → s.inPrint = false → s.level = some level → s.autoEn = true →
    s.rom.samples s.sig →
    (∃ t, execAll [.render, .astep, .render] s = .next t ∧ t.level = some (nextLevel s.rom s.sig) ∧
      t.reqs.map Prod.fst =
        s.reqs.map Prod.fst ++ frameRequests s level ++ frameRequests s (nextLevel s.rom s.sig)) ∧
    (∃ t, execAll [.astep, .render] s = .next t ∧ t.level = some (nextLevel s.rom s.sig) ∧
      t.reqs.map Prod.fst = s.reqs.map Prod.fst ++ frameRequests s (nextLevel s.rom s.sig)) ∧
    ∀ (prints prints' : List (BitVec 2 × List Byte)) (v : Signal),
      (∀ p ∈ prints ++ prints', ∀ c ∈ p.2, s.rom.accepts c) → s.rom.samples v →
      (∃ t u cells cells', execAll (expandUpdate prints) s = .next t ∧ t.level = some (nextLevel s.rom s.sig) ∧
        t.reqs.map Prod.fst = s.reqs.map Prod.fst ++ cells ++
          [.cmd (0xE0 ||| level.setWidth 8), .rd (0xE0 ||| level.setWidth 8)] ∧ cells.length = 5 ∧
        execAll (expandUpdate prints') { t with sig := v } = .next u ∧ u.level = some (nextLevel s.rom v) ∧
        u.reqs.map Prod.fst = t.reqs.map Prod.fst ++ cells' ++
          [.cmd (0xE0 ||| (nextLevel s.rom s.sig).setWidth 8), .rd (0xE0 ||| (nextLevel s.rom s.sig).setWidth 8)] ∧
        cells'.length = 5) ∧
      ∃ t cells, execAll ([.clear] ++ prints.flatMap (fun p => expandPrint p.1 p.2) ++ [.astep, .render]) s = .next t ∧
        t.level = some (nextLevel s.rom s.sig) ∧ cells.length = 5 ∧
        t.reqs.map Prod.fst = s.reqs.map Prod.fst ++ cells ++
          [.cmd (0xE0 ||| (nextLevel s.rom s.sig).setWidth 8), .rd (0xE0 ||| (nextLevel s.rom s.sig).setWidth 8)]

/-! ## Prints as a whole -/

/-- R77, and R149, which the spec marks as derived: a PRINT writes, from its start on, one cell for each character that is no
colon, as far as there are cells, and no other cell: not one before the start, not the one a leading colon skips, not one
past the last character. It sets the colon flag for a processed colon only, returns the positions consumed, and logs one
warning per processed unsupported character and at most one overflow, last. The premise on the codes leaves out what the
reject policy of R6 refuses. -/
def Obligations.PrintProcessesText : Prop :=
  ∀ (s : State) (p : BitVec 2) (text : List Byte), s.phase = .run → s.inPrint = false →
    (∀ c ∈ text, s.rom.accepts c) →
    ∃ t, execAll (expandPrint p text) s = .next t ∧
      (∀ k : Fin 4, k.val < p.toNat → t.cell[k.val] = s.cell[k.val]) ∧
      (∀ k : Fin 4, p.toNat ≤ k.val → t.cell[k.val] =
        match (askedCells text)[k.val - p.toNat]? with
        | some (some c) => (remap s.rom s.inverted (encodeGlyph s.rom c).2).setWidth 8
        | some none => s.cell[k.val]
        | none => s.cell[k.val]) ∧
      t.colon = (s.colon || (processed p.toNat p.toNat text).contains 0x3A) ∧
      t.counts = s.counts ++ [min (4 - p.toNat) (positionsAsked text)] ∧
      (∃ cursor, t.cursor = some cursor ∧ cursor.toNat = p.toNat + min (4 - p.toNat) (positionsAsked text)) ∧
      t.events = s.events ++ (processed p.toNat p.toNat text).flatMap (warningOf s.rom) ++
        (overflowing p.toNat p.toNat text).map Event.bufferOverflow ∧
      t.inPrint = false ∧ t.reqs = s.reqs ∧ t.level = s.level ∧ t.rom = s.rom ∧ t.refused = s.refused ∧
      t.faulted = s.faulted ∧ t.inverted = s.inverted ∧ t.autoEn = s.autoEn ∧ t.phase = .run

/-- R153, which the spec marks as derived: the source's four print examples after CLEAR, as the rules give them. -/
def Obligations.SourcePrintExamples : Prop :=
  ∀ (s : State) (g1 g2 g3 g4 : Byte), s.phase = .run → s.inPrint = false →
    s.glyphByte 0x31 = g1 → s.glyphByte 0x32 = g2 → s.glyphByte 0x33 = g3 → s.glyphByte 0x34 = g4 →
    (∃ t, execAll (.clear :: expandPrint 0 [0x31, 0x32, 0x33, 0x34]) s = .next t ∧ t.cell = #v[g1, g2, g3, g4] ∧
      t.colon = false ∧ t.counts = s.counts ++ [4]) ∧
    (∃ t, execAll (.clear :: expandPrint 0 [0x31, 0x32, 0x3A, 0x33, 0x34]) s = .next t ∧
      t.cell = #v[g1, g2, g3, g4] ∧ t.colon = true ∧ t.counts = s.counts ++ [4]) ∧
    (∃ t, execAll (.clear :: expandPrint 0 [0x3A, 0x31, 0x32]) s = .next t ∧ t.cell = #v[0x00, g1, g2, 0x00] ∧
      t.colon = true ∧ t.counts = s.counts ++ [3]) ∧
    ∃ t, execAll (.clear :: expandPrint 0 [0x31, 0x32, 0x33, 0x34, 0x35]) s = .next t ∧
      t.cell = #v[g1, g2, g3, g4] ∧ t.events.getLast? = some (.bufferOverflow 0x35) ∧ t.counts = s.counts ++ [4]

/-- R152, which the spec marks as derived: where the second print begins at the position after the first one's last and not
with a colon, two prints give the cells, the colon flag and the events of the one print of both texts; their counts add up
to its count. The premise on the codes leaves out what the reject policy of R6 refuses. -/
def Obligations.TwoPrintsMeet : Prop :=
  ∀ (s : State) (p q : BitVec 2) (a b : List Byte), s.phase = .run → s.inPrint = false →
    (∀ c ∈ a ++ b, s.rom.accepts c) → q.toNat = p.toNat + positionsAsked a → b.head? ≠ some 0x3A →
    ∃ t u n m, execAll (expandPrint p a ++ expandPrint q b) s = .next t ∧ execAll (expandPrint p (a ++ b)) s = .next u ∧
      t.cell = u.cell ∧ t.colon = u.colon ∧ t.events = u.events ∧
      t.counts = s.counts ++ [n, m] ∧ u.counts = s.counts ++ [n + m]

/-! ## Whole-machine rules -/

/-- R20, the column "written by": which command can change which element, over all commands. -/
def Obligations.OnlyItsWritersChangeAnElement : Prop :=
  ∀ (i : Instr) (s t : State), exec i s = .next t →
    t.rom = s.rom ∧ t.inbox = s.inbox ∧ t.sig = s.sig ∧
    (t.cell ≠ s.cell → i = .clear ∨ ∃ c, i = .pchar c) ∧
    (t.colon ≠ s.colon → i = .clear ∨ i = .pchar 0x3A) ∧
    (t.inverted ≠ s.inverted → ∃ b, i = .setinv b) ∧
    (t.autoEn ≠ s.autoEn → i = .autoen) ∧
    (t.phase ≠ s.phase → i = .setup) ∧
    (t.level ≠ s.level → i = .astep ∨ ∃ n, i = .setint n) ∧
    (t.inPrint ≠ s.inPrint → i = .pend ∨ ∃ p, i = .pbegin p) ∧
    (t.start ≠ s.start → ∃ p, i = .pbegin p) ∧
    (t.cursor ≠ s.cursor → (∃ p, i = .pbegin p) ∨ ∃ c, i = .pchar c) ∧
    (t.stopped ≠ s.stopped → (∃ p, i = .pbegin p) ∨ ∃ c, i = .pchar c) ∧
    (t.reqs ≠ s.reqs → i = .setup ∨ i = .render) ∧
    (t.events ≠ s.events → i = .setup ∨ i = .render ∨ i = .astep ∨ ∃ c, i = .pchar c) ∧
    (t.counts ≠ s.counts → i = .pend) ∧
    (t.faulted ≠ s.faulted → i = .render ∨ i = .pend ∨ ∃ c, i = .pchar c)

/-- R30, R31, R32, R241: no command leaves phase RUN, and in phase RUN none changes the orientation or the auto
enable. -/
def Obligations.RunPhaseIsForGood : Prop :=
  ∀ (i : Instr) (s t : State), exec i s = .next t → s.phase = .run →
    t.phase = .run ∧ t.inverted = s.inverted ∧ t.autoEn = s.autoEn

/-- R236, R237: no command clears the refused mark or the fault mark. -/
def Obligations.MarksAreNeverCleared : Prop :=
  ∀ (i : Instr) (s t : State), exec i s = .next t →
    (s.refused = true → t.refused = true) ∧ (s.faulted ≠ none → t.faulted ≠ none)

/-- R37, R230: the histories are append-only. -/
def Obligations.HistoriesAreAppendOnly : Prop :=
  ∀ (i : Instr) (s t : State), exec i s = .next t →
    s.reqs <+: t.reqs ∧ s.events <+: t.events ∧ s.counts <+: t.counts ∧ s.refusals <+: t.refusals

/-- R53, R82, R246: a command writes only to the device addresses of the list and sends or reads only its command bytes;
the display-off and oscillator-off bytes are neither sent nor read. -/
def Obligations.OnlyListedDeviceBytes : Prop :=
  ∀ (i : Instr) (s t : State), exec i s = .next t → ∃ entries, t.reqs = s.reqs ++ entries ∧
    ∀ e ∈ entries, allowedRequest e.1 ∧ e.1 ≠ .cmd 0x80 ∧ e.1 ≠ .cmd 0x20 ∧ e.1 ≠ .rd 0x80 ∧ e.1 ≠ .rd 0x20

/-- R20, the column "read by", R37, R212, R240: no command reads the histories; and none reads the marks, which is the model's
inference that the machine goes on after a refusal (log entry 2) and after a fault (log entry 3). `counts` and `refusals` are
the model's own histories (log entry 4). Two states that differ in nothing else give next states that differ in nothing
else, with the same entries appended. -/
def Obligations.HistoriesNeverSteer : Prop :=
  ∀ (i : Instr) (s : State) (reqs : List (Request × Bool)) (events : List Event) (refused : Bool)
    (faulted : Option Fault) (counts : List Nat) (refusals : List Refusal),
    ∃ t t', exec i s = .next t ∧
      exec i { s with
        reqs := reqs, events := events, refused := refused, faulted := faulted, counts := counts,
        refusals := refusals } = .next t' ∧
      t' = { t with
        reqs := t'.reqs, events := t'.events, refused := t'.refused, faulted := t'.faulted, counts := t'.counts,
        refusals := t'.refusals } ∧
      ∃ dr de dc dn, t.reqs = s.reqs ++ dr ∧ t'.reqs = reqs ++ dr ∧ t.events = s.events ++ de ∧
        t'.events = events ++ de ∧ t.counts = s.counts ++ dc ∧ t'.counts = counts ++ dc ∧
        t.refusals = s.refusals ++ dn ∧ t'.refusals = refusals ++ dn

/-- R56, R58: each request takes one answer, the oldest the environment has ready, so that the next command's requests get
the later ones (the list is the model's form of it, log entry 6); and the bytes that reads return are discarded: two
environments with the same `ok` bits give the same next state, but for the answers they have left. -/
def Obligations.ReadBytesAreDiscarded : Prop :=
  (∀ (i : Instr) (s t : State), exec i s = .next t → ∃ entries, t.reqs = s.reqs ++ entries ∧
    entries.map Prod.snd = (List.range entries.length).map (fun k => (s.answerAt k).ok) ∧
    t.answers = s.answers.drop entries.length ∧ t.draws = s.draws + entries.length) ∧
  ∀ (i : Instr) (s : State) (answers : List Answer), answers.map Answer.ok = s.answers.map Answer.ok →
    ∃ t t', exec i s = .next t ∧ exec i { s with answers := answers } = .next t' ∧
      t' = { t with answers := t'.answers } ∧ t'.answers.map Answer.ok = t.answers.map Answer.ok

/-! ## Invariants of every step -/

/-- R22, R150, R212: every step keeps bit 7 of the cells 0, the print registers in range, and no print in CONFIG. -/
def Obligations.StepKeepsDisplayInvariant : Prop :=
  ∀ s t : State, CellsNarrow s → PrintRange s → ConfigNotPrinting s → step s = .next t →
    CellsNarrow t ∧ PrintRange t ∧ ConfigNotPrinting t

/-- The state after reset meets the display invariant (R22, R35, R212) and the fixed words of the glyph ROM (R25 (2), (3)),
whatever the configuration, and holds legal ROMs where the configuration is not refused (R236). -/
def Obligations.ResetMeetsInvariants : Prop :=
  ∀ c : Config, CellsNarrow (State.boot c) ∧ PrintRange (State.boot c) ∧ ConfigNotPrinting (State.boot c) ∧
    glyphConstraints (State.boot c).rom.glyph = true ∧
    ((State.boot c).refused = false → (State.boot c).rom.legal)

/-- R25, R27, R28, R236: every step keeps the fixed words of the glyph ROM (R25 (2), (3)), and keeps a state that is not
marked refused on legal ROMs. -/
def Obligations.StepKeepsLegalRoms : Prop :=
  ∀ s t : State, step s = .next t →
    (glyphConstraints s.rom.glyph = true → glyphConstraints t.rom.glyph = true) ∧
    ((s.refused = false → s.rom.legal) → (t.refused = false → t.rom.legal))

/-- In the invariant's states no print command faults: the only fault left is RENDER's (R237). -/
def Obligations.OnlyRenderFaultsInARun : Prop :=
  ∀ (i : Instr) (s t : State), PrintRange s → exec i s = .next t → t.faulted ≠ s.faulted →
    i = .render ∧ s.level = none ∧ t = { s with faulted := some .levelUnset }

/-! ## Boot and the update cycle -/

/-- R261, R211, R191, R190, R210: from reset with a legal configuration, any of SETINV, AUTOEN and SETINT, in any order and
any number, then SETUP, end in phase RUN without a refusal or a fault, whatever the transport answers; the last SETINV and
the last SETINT win, and what none of them set holds its reset value. -/
def Obligations.BootReachesRun : Prop :=
  ∀ (c : Config) (settings : List Instr), configValid c = true →
    (∀ i ∈ settings, (∃ b, i = .setinv b) ∨ i = .autoen ∨ ∃ n, i = .setint n) →
    ∃ t, execAll (settings ++ [.setup]) (State.boot c) = .next t ∧ t.phase = .run ∧ t.final ∧
      t.reqs.map Prod.fst = [Request.cmd 0x21, .rd 0x21, .cmd 0x81, .rd 0x81] ∧
      (t.autoEn = true ↔ .autoen ∈ settings) ∧
      ((∀ b, .setinv b ∉ settings) → t.inverted = false) ∧
      (∀ before after b, settings = before ++ .setinv b :: after → (∀ b', .setinv b' ∉ after) → t.inverted = b) ∧
      ((∀ n, .setint n ∉ settings) → t.level = c.levelReset) ∧
      ∀ before after n, settings = before ++ .setint n :: after → (∀ n', .setint n' ∉ after) →
        ∃ l, t.level = some l ∧ l.toNat = min n.toNat 15

/-- R78, R212: an update cycle of any prints of any texts runs to its end without a refusal or a fault, once the level is
set, and is ready for the next one. The premise on the codes leaves out what the reject policy of R6 refuses. -/
def Obligations.UpdateCycleCompletes : Prop :=
  ∀ (prints : List (BitVec 2 × List Byte)) (s : State) (level : BitVec 4), s.phase = .run → s.inPrint = false →
    (∀ p ∈ prints, ∀ c ∈ p.2, s.rom.accepts c) → s.level = some level →
    ∃ t, execAll (expandUpdate prints) s = .next t ∧ t.phase = .run ∧ t.inPrint = false ∧ t.level ≠ none ∧
      t.refused = s.refused ∧ t.faulted = s.faulted ∧ t.counts.length = s.counts.length + prints.length ∧
      t.reqs.length = s.reqs.length + 7
end

