-- ==== Sys2Proof/Laws/State.lean ====
section
/-! SUPPORT. One lemma per field per update, each true by rfl, so that no proof unfolds a record update. -/

namespace Sys2Proof.Machine

variable (s : State)

/-! ## refuse -/

@[simp] theorem State.refuse_rom (r : Refusal) : (s.refuse r).rom = s.rom := rfl
@[simp] theorem State.refuse_cell (r : Refusal) : (s.refuse r).cell = s.cell := rfl
@[simp] theorem State.refuse_colon (r : Refusal) : (s.refuse r).colon = s.colon := rfl
@[simp] theorem State.refuse_inverted (r : Refusal) : (s.refuse r).inverted = s.inverted := rfl
@[simp] theorem State.refuse_autoEn (r : Refusal) : (s.refuse r).autoEn = s.autoEn := rfl
@[simp] theorem State.refuse_phase (r : Refusal) : (s.refuse r).phase = s.phase := rfl
@[simp] theorem State.refuse_level (r : Refusal) : (s.refuse r).level = s.level := rfl
@[simp] theorem State.refuse_inPrint (r : Refusal) : (s.refuse r).inPrint = s.inPrint := rfl
@[simp] theorem State.refuse_start (r : Refusal) : (s.refuse r).start = s.start := rfl
@[simp] theorem State.refuse_cursor (r : Refusal) : (s.refuse r).cursor = s.cursor := rfl
@[simp] theorem State.refuse_stopped (r : Refusal) : (s.refuse r).stopped = s.stopped := rfl
@[simp] theorem State.refuse_refused (r : Refusal) : (s.refuse r).refused = true := rfl
@[simp] theorem State.refuse_faulted (r : Refusal) : (s.refuse r).faulted = s.faulted := rfl
@[simp] theorem State.refuse_reqs (r : Refusal) : (s.refuse r).reqs = s.reqs := rfl
@[simp] theorem State.refuse_events (r : Refusal) : (s.refuse r).events = s.events := rfl
@[simp] theorem State.refuse_counts (r : Refusal) : (s.refuse r).counts = s.counts := rfl
@[simp] theorem State.refuse_refusals (r : Refusal) : (s.refuse r).refusals = s.refusals ++ [r] := rfl
@[simp] theorem State.refuse_inbox (r : Refusal) : (s.refuse r).inbox = s.inbox := rfl
@[simp] theorem State.refuse_sig (r : Refusal) : (s.refuse r).sig = s.sig := rfl
@[simp] theorem State.refuse_answers (r : Refusal) : (s.refuse r).answers = s.answers := rfl
@[simp] theorem State.refuse_draws (r : Refusal) : (s.refuse r).draws = s.draws := rfl

/-! ## raiseFault -/

@[simp] theorem State.raiseFault_rom (f : Fault) : (s.raiseFault f).rom = s.rom := rfl
@[simp] theorem State.raiseFault_cell (f : Fault) : (s.raiseFault f).cell = s.cell := rfl
@[simp] theorem State.raiseFault_colon (f : Fault) : (s.raiseFault f).colon = s.colon := rfl
@[simp] theorem State.raiseFault_inverted (f : Fault) : (s.raiseFault f).inverted = s.inverted := rfl
@[simp] theorem State.raiseFault_autoEn (f : Fault) : (s.raiseFault f).autoEn = s.autoEn := rfl
@[simp] theorem State.raiseFault_phase (f : Fault) : (s.raiseFault f).phase = s.phase := rfl
@[simp] theorem State.raiseFault_level (f : Fault) : (s.raiseFault f).level = s.level := rfl
@[simp] theorem State.raiseFault_inPrint (f : Fault) : (s.raiseFault f).inPrint = s.inPrint := rfl
@[simp] theorem State.raiseFault_start (f : Fault) : (s.raiseFault f).start = s.start := rfl
@[simp] theorem State.raiseFault_cursor (f : Fault) : (s.raiseFault f).cursor = s.cursor := rfl
@[simp] theorem State.raiseFault_stopped (f : Fault) : (s.raiseFault f).stopped = s.stopped := rfl
@[simp] theorem State.raiseFault_refused (f : Fault) : (s.raiseFault f).refused = s.refused := rfl
@[simp] theorem State.raiseFault_faulted (f : Fault) : (s.raiseFault f).faulted = some f := rfl
@[simp] theorem State.raiseFault_reqs (f : Fault) : (s.raiseFault f).reqs = s.reqs := rfl
@[simp] theorem State.raiseFault_events (f : Fault) : (s.raiseFault f).events = s.events := rfl
@[simp] theorem State.raiseFault_counts (f : Fault) : (s.raiseFault f).counts = s.counts := rfl
@[simp] theorem State.raiseFault_refusals (f : Fault) : (s.raiseFault f).refusals = s.refusals := rfl
@[simp] theorem State.raiseFault_inbox (f : Fault) : (s.raiseFault f).inbox = s.inbox := rfl
@[simp] theorem State.raiseFault_sig (f : Fault) : (s.raiseFault f).sig = s.sig := rfl
@[simp] theorem State.raiseFault_answers (f : Fault) : (s.raiseFault f).answers = s.answers := rfl
@[simp] theorem State.raiseFault_draws (f : Fault) : (s.raiseFault f).draws = s.draws := rfl

/-! ## log -/

@[simp] theorem State.log_rom (e : Event) : (s.log e).rom = s.rom := rfl
@[simp] theorem State.log_cell (e : Event) : (s.log e).cell = s.cell := rfl
@[simp] theorem State.log_colon (e : Event) : (s.log e).colon = s.colon := rfl
@[simp] theorem State.log_inverted (e : Event) : (s.log e).inverted = s.inverted := rfl
@[simp] theorem State.log_autoEn (e : Event) : (s.log e).autoEn = s.autoEn := rfl
@[simp] theorem State.log_phase (e : Event) : (s.log e).phase = s.phase := rfl
@[simp] theorem State.log_level (e : Event) : (s.log e).level = s.level := rfl
@[simp] theorem State.log_inPrint (e : Event) : (s.log e).inPrint = s.inPrint := rfl
@[simp] theorem State.log_start (e : Event) : (s.log e).start = s.start := rfl
@[simp] theorem State.log_cursor (e : Event) : (s.log e).cursor = s.cursor := rfl
@[simp] theorem State.log_stopped (e : Event) : (s.log e).stopped = s.stopped := rfl
@[simp] theorem State.log_refused (e : Event) : (s.log e).refused = s.refused := rfl
@[simp] theorem State.log_faulted (e : Event) : (s.log e).faulted = s.faulted := rfl
@[simp] theorem State.log_reqs (e : Event) : (s.log e).reqs = s.reqs := rfl
@[simp] theorem State.log_events (e : Event) : (s.log e).events = s.events ++ [e] := rfl
@[simp] theorem State.log_counts (e : Event) : (s.log e).counts = s.counts := rfl
@[simp] theorem State.log_refusals (e : Event) : (s.log e).refusals = s.refusals := rfl
@[simp] theorem State.log_inbox (e : Event) : (s.log e).inbox = s.inbox := rfl
@[simp] theorem State.log_sig (e : Event) : (s.log e).sig = s.sig := rfl
@[simp] theorem State.log_answers (e : Event) : (s.log e).answers = s.answers := rfl
@[simp] theorem State.log_draws (e : Event) : (s.log e).draws = s.draws := rfl

/-! ## emit -/

@[simp] theorem State.emit_rom (r : Request) : (s.emit r).rom = s.rom := rfl
@[simp] theorem State.emit_cell (r : Request) : (s.emit r).cell = s.cell := rfl
@[simp] theorem State.emit_colon (r : Request) : (s.emit r).colon = s.colon := rfl
@[simp] theorem State.emit_inverted (r : Request) : (s.emit r).inverted = s.inverted := rfl
@[simp] theorem State.emit_autoEn (r : Request) : (s.emit r).autoEn = s.autoEn := rfl
@[simp] theorem State.emit_phase (r : Request) : (s.emit r).phase = s.phase := rfl
@[simp] theorem State.emit_level (r : Request) : (s.emit r).level = s.level := rfl
@[simp] theorem State.emit_inPrint (r : Request) : (s.emit r).inPrint = s.inPrint := rfl
@[simp] theorem State.emit_start (r : Request) : (s.emit r).start = s.start := rfl
@[simp] theorem State.emit_cursor (r : Request) : (s.emit r).cursor = s.cursor := rfl
@[simp] theorem State.emit_stopped (r : Request) : (s.emit r).stopped = s.stopped := rfl
@[simp] theorem State.emit_refused (r : Request) : (s.emit r).refused = s.refused := rfl
@[simp] theorem State.emit_faulted (r : Request) : (s.emit r).faulted = s.faulted := rfl
@[simp] theorem State.emit_reqs (r : Request) : (s.emit r).reqs = s.reqs ++ [(r, (s.answerAt 0).ok)] := rfl
@[simp] theorem State.emit_events (r : Request) : (s.emit r).events = if (s.answerAt 0).ok then s.events else s.events ++ [.transportFailure r] := rfl
@[simp] theorem State.emit_counts (r : Request) : (s.emit r).counts = s.counts := rfl
@[simp] theorem State.emit_refusals (r : Request) : (s.emit r).refusals = s.refusals := rfl
@[simp] theorem State.emit_inbox (r : Request) : (s.emit r).inbox = s.inbox := rfl
@[simp] theorem State.emit_sig (r : Request) : (s.emit r).sig = s.sig := rfl
@[simp] theorem State.emit_answers (r : Request) : (s.emit r).answers = s.answers.tail := rfl
@[simp] theorem State.emit_draws (r : Request) : (s.emit r).draws = s.draws + 1 := rfl

/-! ## enterRun -/

@[simp] theorem State.enterRun_rom : (s.enterRun).rom = s.rom := rfl
@[simp] theorem State.enterRun_cell : (s.enterRun).cell = s.cell := rfl
@[simp] theorem State.enterRun_colon : (s.enterRun).colon = s.colon := rfl
@[simp] theorem State.enterRun_inverted : (s.enterRun).inverted = s.inverted := rfl
@[simp] theorem State.enterRun_autoEn : (s.enterRun).autoEn = s.autoEn := rfl
@[simp] theorem State.enterRun_phase : (s.enterRun).phase = .run := rfl
@[simp] theorem State.enterRun_level : (s.enterRun).level = s.level := rfl
@[simp] theorem State.enterRun_inPrint : (s.enterRun).inPrint = s.inPrint := rfl
@[simp] theorem State.enterRun_start : (s.enterRun).start = s.start := rfl
@[simp] theorem State.enterRun_cursor : (s.enterRun).cursor = s.cursor := rfl
@[simp] theorem State.enterRun_stopped : (s.enterRun).stopped = s.stopped := rfl
@[simp] theorem State.enterRun_refused : (s.enterRun).refused = s.refused := rfl
@[simp] theorem State.enterRun_faulted : (s.enterRun).faulted = s.faulted := rfl
@[simp] theorem State.enterRun_reqs : (s.enterRun).reqs = s.reqs := rfl
@[simp] theorem State.enterRun_events : (s.enterRun).events = s.events := rfl
@[simp] theorem State.enterRun_counts : (s.enterRun).counts = s.counts := rfl
@[simp] theorem State.enterRun_refusals : (s.enterRun).refusals = s.refusals := rfl
@[simp] theorem State.enterRun_inbox : (s.enterRun).inbox = s.inbox := rfl
@[simp] theorem State.enterRun_sig : (s.enterRun).sig = s.sig := rfl
@[simp] theorem State.enterRun_answers : (s.enterRun).answers = s.answers := rfl
@[simp] theorem State.enterRun_draws : (s.enterRun).draws = s.draws := rfl

/-! ## setInverted -/

@[simp] theorem State.setInverted_rom (b : Bool) : (s.setInverted b).rom = s.rom := rfl
@[simp] theorem State.setInverted_cell (b : Bool) : (s.setInverted b).cell = s.cell := rfl
@[simp] theorem State.setInverted_colon (b : Bool) : (s.setInverted b).colon = s.colon := rfl
@[simp] theorem State.setInverted_inverted (b : Bool) : (s.setInverted b).inverted = b := rfl
@[simp] theorem State.setInverted_autoEn (b : Bool) : (s.setInverted b).autoEn = s.autoEn := rfl
@[simp] theorem State.setInverted_phase (b : Bool) : (s.setInverted b).phase = s.phase := rfl
@[simp] theorem State.setInverted_level (b : Bool) : (s.setInverted b).level = s.level := rfl
@[simp] theorem State.setInverted_inPrint (b : Bool) : (s.setInverted b).inPrint = s.inPrint := rfl
@[simp] theorem State.setInverted_start (b : Bool) : (s.setInverted b).start = s.start := rfl
@[simp] theorem State.setInverted_cursor (b : Bool) : (s.setInverted b).cursor = s.cursor := rfl
@[simp] theorem State.setInverted_stopped (b : Bool) : (s.setInverted b).stopped = s.stopped := rfl
@[simp] theorem State.setInverted_refused (b : Bool) : (s.setInverted b).refused = s.refused := rfl
@[simp] theorem State.setInverted_faulted (b : Bool) : (s.setInverted b).faulted = s.faulted := rfl
@[simp] theorem State.setInverted_reqs (b : Bool) : (s.setInverted b).reqs = s.reqs := rfl
@[simp] theorem State.setInverted_events (b : Bool) : (s.setInverted b).events = s.events := rfl
@[simp] theorem State.setInverted_counts (b : Bool) : (s.setInverted b).counts = s.counts := rfl
@[simp] theorem State.setInverted_refusals (b : Bool) : (s.setInverted b).refusals = s.refusals := rfl
@[simp] theorem State.setInverted_inbox (b : Bool) : (s.setInverted b).inbox = s.inbox := rfl
@[simp] theorem State.setInverted_sig (b : Bool) : (s.setInverted b).sig = s.sig := rfl
@[simp] theorem State.setInverted_answers (b : Bool) : (s.setInverted b).answers = s.answers := rfl
@[simp] theorem State.setInverted_draws (b : Bool) : (s.setInverted b).draws = s.draws := rfl

/-! ## enableAuto -/

@[simp] theorem State.enableAuto_rom : (s.enableAuto).rom = s.rom := rfl
@[simp] theorem State.enableAuto_cell : (s.enableAuto).cell = s.cell := rfl
@[simp] theorem State.enableAuto_colon : (s.enableAuto).colon = s.colon := rfl
@[simp] theorem State.enableAuto_inverted : (s.enableAuto).inverted = s.inverted := rfl
@[simp] theorem State.enableAuto_autoEn : (s.enableAuto).autoEn = true := rfl
@[simp] theorem State.enableAuto_phase : (s.enableAuto).phase = s.phase := rfl
@[simp] theorem State.enableAuto_level : (s.enableAuto).level = s.level := rfl
@[simp] theorem State.enableAuto_inPrint : (s.enableAuto).inPrint = s.inPrint := rfl
@[simp] theorem State.enableAuto_start : (s.enableAuto).start = s.start := rfl
@[simp] theorem State.enableAuto_cursor : (s.enableAuto).cursor = s.cursor := rfl
@[simp] theorem State.enableAuto_stopped : (s.enableAuto).stopped = s.stopped := rfl
@[simp] theorem State.enableAuto_refused : (s.enableAuto).refused = s.refused := rfl
@[simp] theorem State.enableAuto_faulted : (s.enableAuto).faulted = s.faulted := rfl
@[simp] theorem State.enableAuto_reqs : (s.enableAuto).reqs = s.reqs := rfl
@[simp] theorem State.enableAuto_events : (s.enableAuto).events = s.events := rfl
@[simp] theorem State.enableAuto_counts : (s.enableAuto).counts = s.counts := rfl
@[simp] theorem State.enableAuto_refusals : (s.enableAuto).refusals = s.refusals := rfl
@[simp] theorem State.enableAuto_inbox : (s.enableAuto).inbox = s.inbox := rfl
@[simp] theorem State.enableAuto_sig : (s.enableAuto).sig = s.sig := rfl
@[simp] theorem State.enableAuto_answers : (s.enableAuto).answers = s.answers := rfl
@[simp] theorem State.enableAuto_draws : (s.enableAuto).draws = s.draws := rfl

/-! ## setLevel -/

@[simp] theorem State.setLevel_rom (l : BitVec 4) : (s.setLevel l).rom = s.rom := rfl
@[simp] theorem State.setLevel_cell (l : BitVec 4) : (s.setLevel l).cell = s.cell := rfl
@[simp] theorem State.setLevel_colon (l : BitVec 4) : (s.setLevel l).colon = s.colon := rfl
@[simp] theorem State.setLevel_inverted (l : BitVec 4) : (s.setLevel l).inverted = s.inverted := rfl
@[simp] theorem State.setLevel_autoEn (l : BitVec 4) : (s.setLevel l).autoEn = s.autoEn := rfl
@[simp] theorem State.setLevel_phase (l : BitVec 4) : (s.setLevel l).phase = s.phase := rfl
@[simp] theorem State.setLevel_level (l : BitVec 4) : (s.setLevel l).level = some l := rfl
@[simp] theorem State.setLevel_inPrint (l : BitVec 4) : (s.setLevel l).inPrint = s.inPrint := rfl
@[simp] theorem State.setLevel_start (l : BitVec 4) : (s.setLevel l).start = s.start := rfl
@[simp] theorem State.setLevel_cursor (l : BitVec 4) : (s.setLevel l).cursor = s.cursor := rfl
@[simp] theorem State.setLevel_stopped (l : BitVec 4) : (s.setLevel l).stopped = s.stopped := rfl
@[simp] theorem State.setLevel_refused (l : BitVec 4) : (s.setLevel l).refused = s.refused := rfl
@[simp] theorem State.setLevel_faulted (l : BitVec 4) : (s.setLevel l).faulted = s.faulted := rfl
@[simp] theorem State.setLevel_reqs (l : BitVec 4) : (s.setLevel l).reqs = s.reqs := rfl
@[simp] theorem State.setLevel_events (l : BitVec 4) : (s.setLevel l).events = s.events := rfl
@[simp] theorem State.setLevel_counts (l : BitVec 4) : (s.setLevel l).counts = s.counts := rfl
@[simp] theorem State.setLevel_refusals (l : BitVec 4) : (s.setLevel l).refusals = s.refusals := rfl
@[simp] theorem State.setLevel_inbox (l : BitVec 4) : (s.setLevel l).inbox = s.inbox := rfl
@[simp] theorem State.setLevel_sig (l : BitVec 4) : (s.setLevel l).sig = s.sig := rfl
@[simp] theorem State.setLevel_answers (l : BitVec 4) : (s.setLevel l).answers = s.answers := rfl
@[simp] theorem State.setLevel_draws (l : BitVec 4) : (s.setLevel l).draws = s.draws := rfl

/-! ## clearBuffer -/

@[simp] theorem State.clearBuffer_rom : (s.clearBuffer).rom = s.rom := rfl
@[simp] theorem State.clearBuffer_cell : (s.clearBuffer).cell = #v[0x00, 0x00, 0x00, 0x00] := rfl
@[simp] theorem State.clearBuffer_colon : (s.clearBuffer).colon = false := rfl
@[simp] theorem State.clearBuffer_inverted : (s.clearBuffer).inverted = s.inverted := rfl
@[simp] theorem State.clearBuffer_autoEn : (s.clearBuffer).autoEn = s.autoEn := rfl
@[simp] theorem State.clearBuffer_phase : (s.clearBuffer).phase = s.phase := rfl
@[simp] theorem State.clearBuffer_level : (s.clearBuffer).level = s.level := rfl
@[simp] theorem State.clearBuffer_inPrint : (s.clearBuffer).inPrint = s.inPrint := rfl
@[simp] theorem State.clearBuffer_start : (s.clearBuffer).start = s.start := rfl
@[simp] theorem State.clearBuffer_cursor : (s.clearBuffer).cursor = s.cursor := rfl
@[simp] theorem State.clearBuffer_stopped : (s.clearBuffer).stopped = s.stopped := rfl
@[simp] theorem State.clearBuffer_refused : (s.clearBuffer).refused = s.refused := rfl
@[simp] theorem State.clearBuffer_faulted : (s.clearBuffer).faulted = s.faulted := rfl
@[simp] theorem State.clearBuffer_reqs : (s.clearBuffer).reqs = s.reqs := rfl
@[simp] theorem State.clearBuffer_events : (s.clearBuffer).events = s.events := rfl
@[simp] theorem State.clearBuffer_counts : (s.clearBuffer).counts = s.counts := rfl
@[simp] theorem State.clearBuffer_refusals : (s.clearBuffer).refusals = s.refusals := rfl
@[simp] theorem State.clearBuffer_inbox : (s.clearBuffer).inbox = s.inbox := rfl
@[simp] theorem State.clearBuffer_sig : (s.clearBuffer).sig = s.sig := rfl
@[simp] theorem State.clearBuffer_answers : (s.clearBuffer).answers = s.answers := rfl
@[simp] theorem State.clearBuffer_draws : (s.clearBuffer).draws = s.draws := rfl

/-! ## beginPrint -/

@[simp] theorem State.beginPrint_rom (p : BitVec 2) : (s.beginPrint p).rom = s.rom := rfl
@[simp] theorem State.beginPrint_cell (p : BitVec 2) : (s.beginPrint p).cell = s.cell := rfl
@[simp] theorem State.beginPrint_colon (p : BitVec 2) : (s.beginPrint p).colon = s.colon := rfl
@[simp] theorem State.beginPrint_inverted (p : BitVec 2) : (s.beginPrint p).inverted = s.inverted := rfl
@[simp] theorem State.beginPrint_autoEn (p : BitVec 2) : (s.beginPrint p).autoEn = s.autoEn := rfl
@[simp] theorem State.beginPrint_phase (p : BitVec 2) : (s.beginPrint p).phase = s.phase := rfl
@[simp] theorem State.beginPrint_level (p : BitVec 2) : (s.beginPrint p).level = s.level := rfl
@[simp] theorem State.beginPrint_inPrint (p : BitVec 2) : (s.beginPrint p).inPrint = true := rfl
@[simp] theorem State.beginPrint_start (p : BitVec 2) : (s.beginPrint p).start = some p := rfl
@[simp] theorem State.beginPrint_cursor (p : BitVec 2) : (s.beginPrint p).cursor = some (p.setWidth 3) := rfl
@[simp] theorem State.beginPrint_stopped (p : BitVec 2) : (s.beginPrint p).stopped = some false := rfl
@[simp] theorem State.beginPrint_refused (p : BitVec 2) : (s.beginPrint p).refused = s.refused := rfl
@[simp] theorem State.beginPrint_faulted (p : BitVec 2) : (s.beginPrint p).faulted = s.faulted := rfl
@[simp] theorem State.beginPrint_reqs (p : BitVec 2) : (s.beginPrint p).reqs = s.reqs := rfl
@[simp] theorem State.beginPrint_events (p : BitVec 2) : (s.beginPrint p).events = s.events := rfl
@[simp] theorem State.beginPrint_counts (p : BitVec 2) : (s.beginPrint p).counts = s.counts := rfl
@[simp] theorem State.beginPrint_refusals (p : BitVec 2) : (s.beginPrint p).refusals = s.refusals := rfl
@[simp] theorem State.beginPrint_inbox (p : BitVec 2) : (s.beginPrint p).inbox = s.inbox := rfl
@[simp] theorem State.beginPrint_sig (p : BitVec 2) : (s.beginPrint p).sig = s.sig := rfl
@[simp] theorem State.beginPrint_answers (p : BitVec 2) : (s.beginPrint p).answers = s.answers := rfl
@[simp] theorem State.beginPrint_draws (p : BitVec 2) : (s.beginPrint p).draws = s.draws := rfl

/-! ## setColon -/

@[simp] theorem State.setColon_rom : (s.setColon).rom = s.rom := rfl
@[simp] theorem State.setColon_cell : (s.setColon).cell = s.cell := rfl
@[simp] theorem State.setColon_colon : (s.setColon).colon = true := rfl
@[simp] theorem State.setColon_inverted : (s.setColon).inverted = s.inverted := rfl
@[simp] theorem State.setColon_autoEn : (s.setColon).autoEn = s.autoEn := rfl
@[simp] theorem State.setColon_phase : (s.setColon).phase = s.phase := rfl
@[simp] theorem State.setColon_level : (s.setColon).level = s.level := rfl
@[simp] theorem State.setColon_inPrint : (s.setColon).inPrint = s.inPrint := rfl
@[simp] theorem State.setColon_start : (s.setColon).start = s.start := rfl
@[simp] theorem State.setColon_cursor : (s.setColon).cursor = s.cursor := rfl
@[simp] theorem State.setColon_stopped : (s.setColon).stopped = s.stopped := rfl
@[simp] theorem State.setColon_refused : (s.setColon).refused = s.refused := rfl
@[simp] theorem State.setColon_faulted : (s.setColon).faulted = s.faulted := rfl
@[simp] theorem State.setColon_reqs : (s.setColon).reqs = s.reqs := rfl
@[simp] theorem State.setColon_events : (s.setColon).events = s.events := rfl
@[simp] theorem State.setColon_counts : (s.setColon).counts = s.counts := rfl
@[simp] theorem State.setColon_refusals : (s.setColon).refusals = s.refusals := rfl
@[simp] theorem State.setColon_inbox : (s.setColon).inbox = s.inbox := rfl
@[simp] theorem State.setColon_sig : (s.setColon).sig = s.sig := rfl
@[simp] theorem State.setColon_answers : (s.setColon).answers = s.answers := rfl
@[simp] theorem State.setColon_draws : (s.setColon).draws = s.draws := rfl

/-! ## setCursor -/

@[simp] theorem State.setCursor_rom (c : BitVec 3) : (s.setCursor c).rom = s.rom := rfl
@[simp] theorem State.setCursor_cell (c : BitVec 3) : (s.setCursor c).cell = s.cell := rfl
@[simp] theorem State.setCursor_colon (c : BitVec 3) : (s.setCursor c).colon = s.colon := rfl
@[simp] theorem State.setCursor_inverted (c : BitVec 3) : (s.setCursor c).inverted = s.inverted := rfl
@[simp] theorem State.setCursor_autoEn (c : BitVec 3) : (s.setCursor c).autoEn = s.autoEn := rfl
@[simp] theorem State.setCursor_phase (c : BitVec 3) : (s.setCursor c).phase = s.phase := rfl
@[simp] theorem State.setCursor_level (c : BitVec 3) : (s.setCursor c).level = s.level := rfl
@[simp] theorem State.setCursor_inPrint (c : BitVec 3) : (s.setCursor c).inPrint = s.inPrint := rfl
@[simp] theorem State.setCursor_start (c : BitVec 3) : (s.setCursor c).start = s.start := rfl
@[simp] theorem State.setCursor_cursor (c : BitVec 3) : (s.setCursor c).cursor = some c := rfl
@[simp] theorem State.setCursor_stopped (c : BitVec 3) : (s.setCursor c).stopped = s.stopped := rfl
@[simp] theorem State.setCursor_refused (c : BitVec 3) : (s.setCursor c).refused = s.refused := rfl
@[simp] theorem State.setCursor_faulted (c : BitVec 3) : (s.setCursor c).faulted = s.faulted := rfl
@[simp] theorem State.setCursor_reqs (c : BitVec 3) : (s.setCursor c).reqs = s.reqs := rfl
@[simp] theorem State.setCursor_events (c : BitVec 3) : (s.setCursor c).events = s.events := rfl
@[simp] theorem State.setCursor_counts (c : BitVec 3) : (s.setCursor c).counts = s.counts := rfl
@[simp] theorem State.setCursor_refusals (c : BitVec 3) : (s.setCursor c).refusals = s.refusals := rfl
@[simp] theorem State.setCursor_inbox (c : BitVec 3) : (s.setCursor c).inbox = s.inbox := rfl
@[simp] theorem State.setCursor_sig (c : BitVec 3) : (s.setCursor c).sig = s.sig := rfl
@[simp] theorem State.setCursor_answers (c : BitVec 3) : (s.setCursor c).answers = s.answers := rfl
@[simp] theorem State.setCursor_draws (c : BitVec 3) : (s.setCursor c).draws = s.draws := rfl

/-! ## writeCell -/

@[simp] theorem State.writeCell_rom (i : Fin 4) (v : Byte) : (s.writeCell i v).rom = s.rom := rfl
@[simp] theorem State.writeCell_cell (i : Fin 4) (v : Byte) : (s.writeCell i v).cell = s.cell.set i v := rfl
@[simp] theorem State.writeCell_colon (i : Fin 4) (v : Byte) : (s.writeCell i v).colon = s.colon := rfl
@[simp] theorem State.writeCell_inverted (i : Fin 4) (v : Byte) : (s.writeCell i v).inverted = s.inverted := rfl
@[simp] theorem State.writeCell_autoEn (i : Fin 4) (v : Byte) : (s.writeCell i v).autoEn = s.autoEn := rfl
@[simp] theorem State.writeCell_phase (i : Fin 4) (v : Byte) : (s.writeCell i v).phase = s.phase := rfl
@[simp] theorem State.writeCell_level (i : Fin 4) (v : Byte) : (s.writeCell i v).level = s.level := rfl
@[simp] theorem State.writeCell_inPrint (i : Fin 4) (v : Byte) : (s.writeCell i v).inPrint = s.inPrint := rfl
@[simp] theorem State.writeCell_start (i : Fin 4) (v : Byte) : (s.writeCell i v).start = s.start := rfl
@[simp] theorem State.writeCell_cursor (i : Fin 4) (v : Byte) : (s.writeCell i v).cursor = s.cursor := rfl
@[simp] theorem State.writeCell_stopped (i : Fin 4) (v : Byte) : (s.writeCell i v).stopped = s.stopped := rfl
@[simp] theorem State.writeCell_refused (i : Fin 4) (v : Byte) : (s.writeCell i v).refused = s.refused := rfl
@[simp] theorem State.writeCell_faulted (i : Fin 4) (v : Byte) : (s.writeCell i v).faulted = s.faulted := rfl
@[simp] theorem State.writeCell_reqs (i : Fin 4) (v : Byte) : (s.writeCell i v).reqs = s.reqs := rfl
@[simp] theorem State.writeCell_events (i : Fin 4) (v : Byte) : (s.writeCell i v).events = s.events := rfl
@[simp] theorem State.writeCell_counts (i : Fin 4) (v : Byte) : (s.writeCell i v).counts = s.counts := rfl
@[simp] theorem State.writeCell_refusals (i : Fin 4) (v : Byte) : (s.writeCell i v).refusals = s.refusals := rfl
@[simp] theorem State.writeCell_inbox (i : Fin 4) (v : Byte) : (s.writeCell i v).inbox = s.inbox := rfl
@[simp] theorem State.writeCell_sig (i : Fin 4) (v : Byte) : (s.writeCell i v).sig = s.sig := rfl
@[simp] theorem State.writeCell_answers (i : Fin 4) (v : Byte) : (s.writeCell i v).answers = s.answers := rfl
@[simp] theorem State.writeCell_draws (i : Fin 4) (v : Byte) : (s.writeCell i v).draws = s.draws := rfl

/-! ## stopPrint -/

@[simp] theorem State.stopPrint_rom : (s.stopPrint).rom = s.rom := rfl
@[simp] theorem State.stopPrint_cell : (s.stopPrint).cell = s.cell := rfl
@[simp] theorem State.stopPrint_colon : (s.stopPrint).colon = s.colon := rfl
@[simp] theorem State.stopPrint_inverted : (s.stopPrint).inverted = s.inverted := rfl
@[simp] theorem State.stopPrint_autoEn : (s.stopPrint).autoEn = s.autoEn := rfl
@[simp] theorem State.stopPrint_phase : (s.stopPrint).phase = s.phase := rfl
@[simp] theorem State.stopPrint_level : (s.stopPrint).level = s.level := rfl
@[simp] theorem State.stopPrint_inPrint : (s.stopPrint).inPrint = s.inPrint := rfl
@[simp] theorem State.stopPrint_start : (s.stopPrint).start = s.start := rfl
@[simp] theorem State.stopPrint_cursor : (s.stopPrint).cursor = s.cursor := rfl
@[simp] theorem State.stopPrint_stopped : (s.stopPrint).stopped = some true := rfl
@[simp] theorem State.stopPrint_refused : (s.stopPrint).refused = s.refused := rfl
@[simp] theorem State.stopPrint_faulted : (s.stopPrint).faulted = s.faulted := rfl
@[simp] theorem State.stopPrint_reqs : (s.stopPrint).reqs = s.reqs := rfl
@[simp] theorem State.stopPrint_events : (s.stopPrint).events = s.events := rfl
@[simp] theorem State.stopPrint_counts : (s.stopPrint).counts = s.counts := rfl
@[simp] theorem State.stopPrint_refusals : (s.stopPrint).refusals = s.refusals := rfl
@[simp] theorem State.stopPrint_inbox : (s.stopPrint).inbox = s.inbox := rfl
@[simp] theorem State.stopPrint_sig : (s.stopPrint).sig = s.sig := rfl
@[simp] theorem State.stopPrint_answers : (s.stopPrint).answers = s.answers := rfl
@[simp] theorem State.stopPrint_draws : (s.stopPrint).draws = s.draws := rfl

/-! ## endPrint -/

@[simp] theorem State.endPrint_rom (n : Nat) : (s.endPrint n).rom = s.rom := rfl
@[simp] theorem State.endPrint_cell (n : Nat) : (s.endPrint n).cell = s.cell := rfl
@[simp] theorem State.endPrint_colon (n : Nat) : (s.endPrint n).colon = s.colon := rfl
@[simp] theorem State.endPrint_inverted (n : Nat) : (s.endPrint n).inverted = s.inverted := rfl
@[simp] theorem State.endPrint_autoEn (n : Nat) : (s.endPrint n).autoEn = s.autoEn := rfl
@[simp] theorem State.endPrint_phase (n : Nat) : (s.endPrint n).phase = s.phase := rfl
@[simp] theorem State.endPrint_level (n : Nat) : (s.endPrint n).level = s.level := rfl
@[simp] theorem State.endPrint_inPrint (n : Nat) : (s.endPrint n).inPrint = false := rfl
@[simp] theorem State.endPrint_start (n : Nat) : (s.endPrint n).start = s.start := rfl
@[simp] theorem State.endPrint_cursor (n : Nat) : (s.endPrint n).cursor = s.cursor := rfl
@[simp] theorem State.endPrint_stopped (n : Nat) : (s.endPrint n).stopped = s.stopped := rfl
@[simp] theorem State.endPrint_refused (n : Nat) : (s.endPrint n).refused = s.refused := rfl
@[simp] theorem State.endPrint_faulted (n : Nat) : (s.endPrint n).faulted = s.faulted := rfl
@[simp] theorem State.endPrint_reqs (n : Nat) : (s.endPrint n).reqs = s.reqs := rfl
@[simp] theorem State.endPrint_events (n : Nat) : (s.endPrint n).events = s.events := rfl
@[simp] theorem State.endPrint_counts (n : Nat) : (s.endPrint n).counts = s.counts ++ [n] := rfl
@[simp] theorem State.endPrint_refusals (n : Nat) : (s.endPrint n).refusals = s.refusals := rfl
@[simp] theorem State.endPrint_inbox (n : Nat) : (s.endPrint n).inbox = s.inbox := rfl
@[simp] theorem State.endPrint_sig (n : Nat) : (s.endPrint n).sig = s.sig := rfl
@[simp] theorem State.endPrint_answers (n : Nat) : (s.endPrint n).answers = s.answers := rfl
@[simp] theorem State.endPrint_draws (n : Nat) : (s.endPrint n).draws = s.draws := rfl

/-! ## present -/

@[simp] theorem State.present_rom (rest : List Input) (v : Signal) : (s.present rest v).rom = s.rom := rfl
@[simp] theorem State.present_cell (rest : List Input) (v : Signal) : (s.present rest v).cell = s.cell := rfl
@[simp] theorem State.present_colon (rest : List Input) (v : Signal) : (s.present rest v).colon = s.colon := rfl
@[simp] theorem State.present_inverted (rest : List Input) (v : Signal) : (s.present rest v).inverted = s.inverted := rfl
@[simp] theorem State.present_autoEn (rest : List Input) (v : Signal) : (s.present rest v).autoEn = s.autoEn := rfl
@[simp] theorem State.present_phase (rest : List Input) (v : Signal) : (s.present rest v).phase = s.phase := rfl
@[simp] theorem State.present_level (rest : List Input) (v : Signal) : (s.present rest v).level = s.level := rfl
@[simp] theorem State.present_inPrint (rest : List Input) (v : Signal) : (s.present rest v).inPrint = s.inPrint := rfl
@[simp] theorem State.present_start (rest : List Input) (v : Signal) : (s.present rest v).start = s.start := rfl
@[simp] theorem State.present_cursor (rest : List Input) (v : Signal) : (s.present rest v).cursor = s.cursor := rfl
@[simp] theorem State.present_stopped (rest : List Input) (v : Signal) : (s.present rest v).stopped = s.stopped := rfl
@[simp] theorem State.present_refused (rest : List Input) (v : Signal) : (s.present rest v).refused = s.refused := rfl
@[simp] theorem State.present_faulted (rest : List Input) (v : Signal) : (s.present rest v).faulted = s.faulted := rfl
@[simp] theorem State.present_reqs (rest : List Input) (v : Signal) : (s.present rest v).reqs = s.reqs := rfl
@[simp] theorem State.present_events (rest : List Input) (v : Signal) : (s.present rest v).events = s.events := rfl
@[simp] theorem State.present_counts (rest : List Input) (v : Signal) : (s.present rest v).counts = s.counts := rfl
@[simp] theorem State.present_refusals (rest : List Input) (v : Signal) : (s.present rest v).refusals = s.refusals := rfl
@[simp] theorem State.present_inbox (rest : List Input) (v : Signal) : (s.present rest v).inbox = rest := rfl
@[simp] theorem State.present_sig (rest : List Input) (v : Signal) : (s.present rest v).sig = v := rfl
@[simp] theorem State.present_answers (rest : List Input) (v : Signal) : (s.present rest v).answers = s.answers := rfl
@[simp] theorem State.present_draws (rest : List Input) (v : Signal) : (s.present rest v).draws = s.draws := rfl

/-! ## restart -/

@[simp] theorem State.restart_rom (c : Config) (rest : List Input) : (s.restart c rest).rom = (State.boot c).rom := rfl
@[simp] theorem State.restart_cell (c : Config) (rest : List Input) : (s.restart c rest).cell = (State.boot c).cell := rfl
@[simp] theorem State.restart_colon (c : Config) (rest : List Input) : (s.restart c rest).colon = (State.boot c).colon := rfl
@[simp] theorem State.restart_inverted (c : Config) (rest : List Input) : (s.restart c rest).inverted = (State.boot c).inverted := rfl
@[simp] theorem State.restart_autoEn (c : Config) (rest : List Input) : (s.restart c rest).autoEn = (State.boot c).autoEn := rfl
@[simp] theorem State.restart_phase (c : Config) (rest : List Input) : (s.restart c rest).phase = (State.boot c).phase := rfl
@[simp] theorem State.restart_level (c : Config) (rest : List Input) : (s.restart c rest).level = (State.boot c).level := rfl
@[simp] theorem State.restart_inPrint (c : Config) (rest : List Input) : (s.restart c rest).inPrint = (State.boot c).inPrint := rfl
@[simp] theorem State.restart_start (c : Config) (rest : List Input) : (s.restart c rest).start = (State.boot c).start := rfl
@[simp] theorem State.restart_cursor (c : Config) (rest : List Input) : (s.restart c rest).cursor = (State.boot c).cursor := rfl
@[simp] theorem State.restart_stopped (c : Config) (rest : List Input) : (s.restart c rest).stopped = (State.boot c).stopped := rfl
@[simp] theorem State.restart_refused (c : Config) (rest : List Input) : (s.restart c rest).refused = (State.boot c).refused := rfl
@[simp] theorem State.restart_faulted (c : Config) (rest : List Input) : (s.restart c rest).faulted = (State.boot c).faulted := rfl
@[simp] theorem State.restart_reqs (c : Config) (rest : List Input) : (s.restart c rest).reqs = (State.boot c).reqs := rfl
@[simp] theorem State.restart_events (c : Config) (rest : List Input) : (s.restart c rest).events = (State.boot c).events := rfl
@[simp] theorem State.restart_counts (c : Config) (rest : List Input) : (s.restart c rest).counts = (State.boot c).counts := rfl
@[simp] theorem State.restart_refusals (c : Config) (rest : List Input) : (s.restart c rest).refusals = (State.boot c).refusals := rfl
@[simp] theorem State.restart_inbox (c : Config) (rest : List Input) : (s.restart c rest).inbox = rest := rfl
@[simp] theorem State.restart_sig (c : Config) (rest : List Input) : (s.restart c rest).sig = s.sig := rfl
@[simp] theorem State.restart_answers (c : Config) (rest : List Input) : (s.restart c rest).answers = s.answers := rfl
@[simp] theorem State.restart_draws (c : Config) (rest : List Input) : (s.restart c rest).draws = s.draws := rfl

end Sys2Proof.Machine
end

