-- ==== Sys2Proof/Laws/Ops.lean ====
section
/-! SUPPORT. What the shared operations can do, said once: the guards of R212, the read of an element that may be unset
(R237), and a command's requests with their answers (R56). -/

namespace Sys2Proof.Machine

/-! ## Guards -/

theorem State.inConfig_cases (s : State) (f : State → State) :
    (s.phase = .config ∧ s.inConfig f = f s) ∨ (s.phase = .run ∧ s.inConfig f = s.refuse .phase) := by
  cases h : s.phase <;> simp [State.inConfig, h]

theorem State.outsidePrint_cases (s : State) (f : State → State) :
    (s.inPrint = false ∧ s.outsidePrint f = f s) ∨ (s.inPrint = true ∧ s.outsidePrint f = s.refuse .protocol) := by
  cases h : s.inPrint <;> simp [State.outsidePrint, h]

theorem State.inRun_cases (s : State) (f : State → State) :
    (s.phase = .run ∧ s.inPrint = false ∧ s.inRun f = f s) ∨
      ((s.phase = .config ∨ s.inPrint = true) ∧ s.inRun f = s.refuse .protocol) := by
  cases h : s.phase <;> cases h' : s.inPrint <;> simp [State.inRun, h, h']

theorem State.inPrinting_cases (s : State) (f : State → State) :
    (s.phase = .run ∧ s.inPrint = true ∧ s.inPrinting f = f s) ∨
      ((s.phase = .config ∨ s.inPrint = false) ∧ s.inPrinting f = s.refuse .protocol) := by
  cases h : s.phase <;> cases h' : s.inPrint <;> simp [State.inPrinting, h, h']

theorem State.inConfig_of (s : State) (f : State → State) (h : s.phase = .config) : s.inConfig f = f s := if_pos h

theorem State.outsidePrint_of (s : State) (f : State → State) (h : s.inPrint = false) : s.outsidePrint f = f s :=
  if_neg (by simp [h])

theorem State.inRun_of (s : State) (f : State → State) (h : s.phase = .run) (h' : s.inPrint = false) :
    s.inRun f = f s := if_pos ⟨h, h'⟩

theorem State.inPrinting_of (s : State) (f : State → State) (h : s.phase = .run) (h' : s.inPrint = true) :
    s.inPrinting f = f s := if_pos ⟨h, h'⟩

/-! ## Reads -/

@[simp] theorem State.reading_some {α : Type} (s : State) (v : α) (f : α → State) :
    s.reading (some v) f = f v := rfl

@[simp] theorem State.reading_none {α : Type} (s : State) (f : α → State) :
    s.reading (none : Option α) f = s.raiseFault .unwritten := rfl

theorem State.reading_cases {α : Type} (s : State) (element : Option α) (f : α → State) :
    (∃ v, element = some v ∧ s.reading element f = f v) ∨
      (element = none ∧ s.reading element f = s.raiseFault .unwritten) := by
  cases element with
  | none => exact .inr ⟨rfl, rfl⟩
  | some v => exact .inl ⟨v, rfl, rfl⟩

/-! ## Requests -/

/-- After one request the next answer is the one that was second. -/
theorem State.answerAt_emit (s : State) (r : Request) (k : Nat) : (s.emit r).answerAt k = s.answerAt (k + 1) := by
  have h : s.answers.tail[k]? = s.answers[k + 1]? := by cases s.answers <;> simp
  simp only [State.answerAt, State.emit_answers, State.emit_draws, h]
  congr 2
  omega

@[simp] theorem State.emitAll_nil (s : State) : s.emitAll [] = s := rfl

theorem State.emitAll_cons (s : State) (r : Request) (rs : List Request) :
    s.emitAll (r :: rs) = (s.emit r).emitAll rs := rfl

@[simp] theorem State.emitAll_rom (s : State) (rs : List Request) : (s.emitAll rs).rom = s.rom := by
  induction rs generalizing s with
  | nil => rfl
  | cons r rs ih => simp [State.emitAll_cons, ih]

@[simp] theorem State.emitAll_cell (s : State) (rs : List Request) : (s.emitAll rs).cell = s.cell := by
  induction rs generalizing s with
  | nil => rfl
  | cons r rs ih => simp [State.emitAll_cons, ih]

@[simp] theorem State.emitAll_colon (s : State) (rs : List Request) : (s.emitAll rs).colon = s.colon := by
  induction rs generalizing s with
  | nil => rfl
  | cons r rs ih => simp [State.emitAll_cons, ih]

@[simp] theorem State.emitAll_inverted (s : State) (rs : List Request) : (s.emitAll rs).inverted = s.inverted := by
  induction rs generalizing s with
  | nil => rfl
  | cons r rs ih => simp [State.emitAll_cons, ih]

@[simp] theorem State.emitAll_autoEn (s : State) (rs : List Request) : (s.emitAll rs).autoEn = s.autoEn := by
  induction rs generalizing s with
  | nil => rfl
  | cons r rs ih => simp [State.emitAll_cons, ih]

@[simp] theorem State.emitAll_phase (s : State) (rs : List Request) : (s.emitAll rs).phase = s.phase := by
  induction rs generalizing s with
  | nil => rfl
  | cons r rs ih => simp [State.emitAll_cons, ih]

@[simp] theorem State.emitAll_level (s : State) (rs : List Request) : (s.emitAll rs).level = s.level := by
  induction rs generalizing s with
  | nil => rfl
  | cons r rs ih => simp [State.emitAll_cons, ih]

@[simp] theorem State.emitAll_inPrint (s : State) (rs : List Request) : (s.emitAll rs).inPrint = s.inPrint := by
  induction rs generalizing s with
  | nil => rfl
  | cons r rs ih => simp [State.emitAll_cons, ih]

@[simp] theorem State.emitAll_start (s : State) (rs : List Request) : (s.emitAll rs).start = s.start := by
  induction rs generalizing s with
  | nil => rfl
  | cons r rs ih => simp [State.emitAll_cons, ih]

@[simp] theorem State.emitAll_cursor (s : State) (rs : List Request) : (s.emitAll rs).cursor = s.cursor := by
  induction rs generalizing s with
  | nil => rfl
  | cons r rs ih => simp [State.emitAll_cons, ih]

@[simp] theorem State.emitAll_stopped (s : State) (rs : List Request) : (s.emitAll rs).stopped = s.stopped := by
  induction rs generalizing s with
  | nil => rfl
  | cons r rs ih => simp [State.emitAll_cons, ih]

@[simp] theorem State.emitAll_refused (s : State) (rs : List Request) : (s.emitAll rs).refused = s.refused := by
  induction rs generalizing s with
  | nil => rfl
  | cons r rs ih => simp [State.emitAll_cons, ih]

@[simp] theorem State.emitAll_faulted (s : State) (rs : List Request) : (s.emitAll rs).faulted = s.faulted := by
  induction rs generalizing s with
  | nil => rfl
  | cons r rs ih => simp [State.emitAll_cons, ih]

@[simp] theorem State.emitAll_counts (s : State) (rs : List Request) : (s.emitAll rs).counts = s.counts := by
  induction rs generalizing s with
  | nil => rfl
  | cons r rs ih => simp [State.emitAll_cons, ih]

@[simp] theorem State.emitAll_refusals (s : State) (rs : List Request) : (s.emitAll rs).refusals = s.refusals := by
  induction rs generalizing s with
  | nil => rfl
  | cons r rs ih => simp [State.emitAll_cons, ih]

@[simp] theorem State.emitAll_inbox (s : State) (rs : List Request) : (s.emitAll rs).inbox = s.inbox := by
  induction rs generalizing s with
  | nil => rfl
  | cons r rs ih => simp [State.emitAll_cons, ih]

@[simp] theorem State.emitAll_sig (s : State) (rs : List Request) : (s.emitAll rs).sig = s.sig := by
  induction rs generalizing s with
  | nil => rfl
  | cons r rs ih => simp [State.emitAll_cons, ih]

@[simp] theorem State.emitAll_draws (s : State) (rs : List Request) :
    (s.emitAll rs).draws = s.draws + rs.length := by
  induction rs generalizing s with
  | nil => rfl
  | cons r rs ih => simp [State.emitAll_cons, ih]; omega

@[simp] theorem State.emitAll_answers (s : State) (rs : List Request) :
    (s.emitAll rs).answers = s.answers.drop rs.length := by
  induction rs generalizing s with
  | nil => rfl
  | cons r rs ih => simp [State.emitAll_cons, ih, List.drop_tail]

/-- The answers the next n + 1 requests get: the first, then those after one request. -/
theorem State.oks_succ (s : State) (r : Request) (n : Nat) :
    s.oks (n + 1) = (s.answerAt 0).ok :: (s.emit r).oks n := by
  simp only [State.oks, List.range_succ_eq_map, List.map_cons, List.map_map]
  congr 1
  apply List.map_congr_left
  intro k _
  simp [Function.comp, State.answerAt_emit]

@[simp] theorem State.oks_length (s : State) (n : Nat) : (s.oks n).length = n := by simp [State.oks]

@[simp] theorem failureEvents_nil : failureEvents [] = [] := rfl

@[simp] theorem failureEvents_cons (r : Request) (ok : Bool) (es : List (Request × Bool)) :
    failureEvents ((r, ok) :: es) = (if ok then [] else [.transportFailure r]) ++ failureEvents es := by
  cases ok <;> rfl

/-- A command's requests reach the history in order, each with its answer (R56, R59). -/
@[simp] theorem State.emitAll_reqs (s : State) (rs : List Request) :
    (s.emitAll rs).reqs = s.reqs ++ rs.zip (s.oks rs.length) := by
  induction rs generalizing s with
  | nil => simp
  | cons r rs ih => simp [State.emitAll_cons, ih, s.oks_succ r]

/-- A command's requests raise one TransportFailure for each `ok` = 0, in order (R233, R238). -/
@[simp] theorem State.emitAll_events (s : State) (rs : List Request) :
    (s.emitAll rs).events = s.events ++ failureEvents (rs.zip (s.oks rs.length)) := by
  induction rs generalizing s with
  | nil => simp
  | cons r rs ih => cases h : (s.answerAt 0).ok <;> simp [State.emitAll_cons, ih, s.oks_succ r, h]

end Sys2Proof.Machine
end

