-- ==== Sys2Proof/Laws/Exec.lean ====
section
/-! SUPPORT. What each meaning can do, said once: the meanings as the shared operations they are, the small lemmas of the
warning and of the mismatch, and the cases of PCHAR, PEND, RENDER and ASTEP past their guards. -/

namespace Sys2Proof.Machine

/-! ## The meanings -/

theorem exec_setup (s : State) :
    exec .setup s = .next (s.inConfig fun s => (s.emitAll setupRequests).enterRun) := rfl

theorem exec_setinv (b : Bool) (s : State) : exec (.setinv b) s = .next (s.inConfig (State.setInverted b)) := rfl

theorem exec_autoen (s : State) : exec .autoen s = .next (s.inConfig State.enableAuto) := rfl

theorem exec_setint (n : BitVec 8) (s : State) :
    exec (.setint n) s = .next (s.outsidePrint (State.setLevel (clampOperand n))) := rfl

theorem exec_clear (s : State) : exec .clear s = .next (s.inRun State.clearBuffer) := rfl

theorem exec_pbegin (p : BitVec 2) (s : State) : exec (.pbegin p) s = .next (s.inRun (State.beginPrint p)) := rfl

theorem exec_pchar (c : BitVec 8) (s : State) : exec (.pchar c) s = .next (s.inPrinting (State.printChar c)) := rfl

theorem exec_pend (s : State) : exec .pend s = .next (s.inPrinting State.finishPrint) := rfl

theorem exec_render (s : State) : exec .render s = .next (s.inRun State.sendFrame) := rfl

theorem exec_astep (s : State) :
    exec .astep s = .next (s.inRun fun s => if s.autoEn then s.autoStep else s) := rfl

/-! ## The unsupported-glyph warning -/

@[simp] theorem State.warnGlyph_rom (s : State) (c : Byte) : (s.warnGlyph c).rom = s.rom := by
  unfold State.warnGlyph; split <;> rfl

@[simp] theorem State.warnGlyph_cell (s : State) (c : Byte) : (s.warnGlyph c).cell = s.cell := by
  unfold State.warnGlyph; split <;> rfl

@[simp] theorem State.warnGlyph_colon (s : State) (c : Byte) : (s.warnGlyph c).colon = s.colon := by
  unfold State.warnGlyph; split <;> rfl

@[simp] theorem State.warnGlyph_inverted (s : State) (c : Byte) : (s.warnGlyph c).inverted = s.inverted := by
  unfold State.warnGlyph; split <;> rfl

@[simp] theorem State.warnGlyph_autoEn (s : State) (c : Byte) : (s.warnGlyph c).autoEn = s.autoEn := by
  unfold State.warnGlyph; split <;> rfl

@[simp] theorem State.warnGlyph_phase (s : State) (c : Byte) : (s.warnGlyph c).phase = s.phase := by
  unfold State.warnGlyph; split <;> rfl

@[simp] theorem State.warnGlyph_level (s : State) (c : Byte) : (s.warnGlyph c).level = s.level := by
  unfold State.warnGlyph; split <;> rfl

@[simp] theorem State.warnGlyph_inPrint (s : State) (c : Byte) : (s.warnGlyph c).inPrint = s.inPrint := by
  unfold State.warnGlyph; split <;> rfl

@[simp] theorem State.warnGlyph_start (s : State) (c : Byte) : (s.warnGlyph c).start = s.start := by
  unfold State.warnGlyph; split <;> rfl

@[simp] theorem State.warnGlyph_cursor (s : State) (c : Byte) : (s.warnGlyph c).cursor = s.cursor := by
  unfold State.warnGlyph; split <;> rfl

@[simp] theorem State.warnGlyph_stopped (s : State) (c : Byte) : (s.warnGlyph c).stopped = s.stopped := by
  unfold State.warnGlyph; split <;> rfl

@[simp] theorem State.warnGlyph_refused (s : State) (c : Byte) : (s.warnGlyph c).refused = s.refused := by
  unfold State.warnGlyph; split <;> rfl

@[simp] theorem State.warnGlyph_faulted (s : State) (c : Byte) : (s.warnGlyph c).faulted = s.faulted := by
  unfold State.warnGlyph; split <;> rfl

@[simp] theorem State.warnGlyph_reqs (s : State) (c : Byte) : (s.warnGlyph c).reqs = s.reqs := by
  unfold State.warnGlyph; split <;> rfl

@[simp] theorem State.warnGlyph_events (s : State) (c : Byte) : (s.warnGlyph c).events = s.events ++ warningOf s.rom c := by
  unfold State.warnGlyph warningOf; split <;> simp

@[simp] theorem State.warnGlyph_counts (s : State) (c : Byte) : (s.warnGlyph c).counts = s.counts := by
  unfold State.warnGlyph; split <;> rfl

@[simp] theorem State.warnGlyph_refusals (s : State) (c : Byte) : (s.warnGlyph c).refusals = s.refusals := by
  unfold State.warnGlyph; split <;> rfl

@[simp] theorem State.warnGlyph_inbox (s : State) (c : Byte) : (s.warnGlyph c).inbox = s.inbox := by
  unfold State.warnGlyph; split <;> rfl

@[simp] theorem State.warnGlyph_sig (s : State) (c : Byte) : (s.warnGlyph c).sig = s.sig := by
  unfold State.warnGlyph; split <;> rfl

@[simp] theorem State.warnGlyph_answers (s : State) (c : Byte) : (s.warnGlyph c).answers = s.answers := by
  unfold State.warnGlyph; split <;> rfl

@[simp] theorem State.warnGlyph_draws (s : State) (c : Byte) : (s.warnGlyph c).draws = s.draws := by
  unfold State.warnGlyph; split <;> rfl

/-- The warning appends its events and changes nothing else. -/
theorem State.warnGlyph_eq (s : State) (c : Byte) :
    s.warnGlyph c = { s with events := s.events ++ warningOf s.rom c } := by
  unfold State.warnGlyph warningOf
  split
  · rfl
  · simp

/-! ## The mismatch event -/

/-- The sample appends its events and changes nothing else. -/
theorem State.logMismatch_eq (s : State) :
    s.logMismatch = { s with events := s.events ++ mismatchOf s.sig } := by
  unfold State.logMismatch mismatchOf
  split
  · rfl
  · simp

@[simp] theorem State.logMismatch_rom (s : State) : (s.logMismatch).rom = s.rom := by
  unfold State.logMismatch; split <;> rfl

@[simp] theorem State.logMismatch_cell (s : State) : (s.logMismatch).cell = s.cell := by
  unfold State.logMismatch; split <;> rfl

@[simp] theorem State.logMismatch_colon (s : State) : (s.logMismatch).colon = s.colon := by
  unfold State.logMismatch; split <;> rfl

@[simp] theorem State.logMismatch_inverted (s : State) : (s.logMismatch).inverted = s.inverted := by
  unfold State.logMismatch; split <;> rfl

@[simp] theorem State.logMismatch_autoEn (s : State) : (s.logMismatch).autoEn = s.autoEn := by
  unfold State.logMismatch; split <;> rfl

@[simp] theorem State.logMismatch_phase (s : State) : (s.logMismatch).phase = s.phase := by
  unfold State.logMismatch; split <;> rfl

@[simp] theorem State.logMismatch_level (s : State) : (s.logMismatch).level = s.level := by
  unfold State.logMismatch; split <;> rfl

@[simp] theorem State.logMismatch_inPrint (s : State) : (s.logMismatch).inPrint = s.inPrint := by
  unfold State.logMismatch; split <;> rfl

@[simp] theorem State.logMismatch_start (s : State) : (s.logMismatch).start = s.start := by
  unfold State.logMismatch; split <;> rfl

@[simp] theorem State.logMismatch_cursor (s : State) : (s.logMismatch).cursor = s.cursor := by
  unfold State.logMismatch; split <;> rfl

@[simp] theorem State.logMismatch_stopped (s : State) : (s.logMismatch).stopped = s.stopped := by
  unfold State.logMismatch; split <;> rfl

@[simp] theorem State.logMismatch_refused (s : State) : (s.logMismatch).refused = s.refused := by
  unfold State.logMismatch; split <;> rfl

@[simp] theorem State.logMismatch_faulted (s : State) : (s.logMismatch).faulted = s.faulted := by
  unfold State.logMismatch; split <;> rfl

@[simp] theorem State.logMismatch_reqs (s : State) : (s.logMismatch).reqs = s.reqs := by
  unfold State.logMismatch; split <;> rfl

@[simp] theorem State.logMismatch_events (s : State) : (s.logMismatch).events = s.events ++ mismatchOf s.sig := by
  unfold State.logMismatch mismatchOf; split <;> simp

@[simp] theorem State.logMismatch_counts (s : State) : (s.logMismatch).counts = s.counts := by
  unfold State.logMismatch; split <;> rfl

@[simp] theorem State.logMismatch_refusals (s : State) : (s.logMismatch).refusals = s.refusals := by
  unfold State.logMismatch; split <;> rfl

@[simp] theorem State.logMismatch_inbox (s : State) : (s.logMismatch).inbox = s.inbox := by
  unfold State.logMismatch; split <;> rfl

@[simp] theorem State.logMismatch_sig (s : State) : (s.logMismatch).sig = s.sig := by
  unfold State.logMismatch; split <;> rfl

@[simp] theorem State.logMismatch_answers (s : State) : (s.logMismatch).answers = s.answers := by
  unfold State.logMismatch; split <;> rfl

@[simp] theorem State.logMismatch_draws (s : State) : (s.logMismatch).draws = s.draws := by
  unfold State.logMismatch; split <;> rfl

/-! ## The cases past the guards -/

@[simp] theorem State.warnGlyph_glyphByte (s : State) (c d : Byte) : (s.warnGlyph c).glyphByte d = s.glyphByte d := by
  simp [State.glyphByte]

/-- What PCHAR can do past its guard (R142 to R146, R237). -/
theorem State.printChar_cases (s : State) (c : Byte) :
    (rejectsCode s.rom c ∧ s.printChar c = s.refuse .codeRejected) ∨
    (¬ rejectsCode s.rom c ∧ s.printChar c = s.raiseFault .unwritten ∧
      (s.stopped = none ∨ s.cursor = none ∨ (c = colonChar ∧ s.start = none))) ∨
    (¬ rejectsCode s.rom c ∧ s.stopped = some true ∧ s.printChar c = s) ∨
    (¬ rejectsCode s.rom c ∧ s.stopped = some false ∧ c = colonChar ∧ ∃ cursor start, s.cursor = some cursor ∧
      s.start = some start ∧
      s.printChar c = (s.warnGlyph c).setColon.setCursor (advanceCursor (borrowCell cursor start))) ∨
    (¬ rejectsCode s.rom c ∧ s.stopped = some false ∧ c ≠ colonChar ∧ ∃ cursor, s.cursor = some cursor ∧
      ∃ h : cursor.toNat < 4, s.printChar c =
        ((s.warnGlyph c).writeCell ⟨cursor.toNat, h⟩ (s.glyphByte c)).setCursor (advanceCursor cursor)) ∨
    (¬ rejectsCode s.rom c ∧ s.stopped = some false ∧ c ≠ colonChar ∧ ∃ cursor, s.cursor = some cursor ∧
      4 ≤ cursor.toNat ∧ s.printChar c = ((s.warnGlyph c).log (.bufferOverflow c)).stopPrint) := by
  by_cases hr : rejectsCode s.rom c
  · exact .inl ⟨hr, if_pos hr⟩
  · have e : s.printChar c = s.reading s.stopped fun stopped => if stopped then s else s.processChar c := if_neg hr
    refine .inr ?_
    cases hs : s.stopped with
    | none => simp [hr, e, hs]
    | some b =>
      cases b with
      | true => simp [hr, e, hs]
      | false =>
        cases hc : s.cursor with
        | none => simp [hr, e, hs, hc, State.processChar]
        | some cur =>
          by_cases hcol : c = colonChar
          · subst hcol
            cases hst : s.start <;> simp [hr, e, hs, hc, hst, State.processChar, State.colonStep]
          · by_cases hlt : cur.toNat < 4
            · simp [hr, e, hs, hc, hcol, hlt, State.processChar, State.cellStep]
            · simp [hr, e, hs, hc, hcol, hlt, State.processChar, State.cellStep]; omega

theorem State.printChar_of_going (s : State) (c : Byte) (hr : ¬ rejectsCode s.rom c) (hs : s.stopped = some false) :
    s.printChar c = s.processChar c := by
  rw [State.printChar, if_neg hr, hs]
  rfl

/-- PCHAR of the colon, the print going on (R143). -/
theorem State.processChar_colon (s : State) (cursor : BitVec 3) (start : BitVec 2) (hc : s.cursor = some cursor)
    (hs : s.start = some start) :
    s.processChar colonChar =
      (s.warnGlyph colonChar).setColon.setCursor (advanceCursor (borrowCell cursor start)) := by
  rw [State.processChar, hc, hs]
  rfl

/-- PCHAR of any other character at a cell (R144). -/
theorem State.processChar_write (s : State) (c : Byte) (cursor : BitVec 3) (hc : s.cursor = some cursor)
    (hn : c ≠ colonChar) (h : cursor.toNat < 4) :
    s.processChar c =
      ((s.warnGlyph c).writeCell ⟨cursor.toNat, h⟩ (s.glyphByte c)).setCursor (advanceCursor cursor) := by
  rw [State.processChar, hc, State.reading_some, if_neg hn, State.cellStep, dif_pos h, State.warnGlyph_glyphByte]

/-- PCHAR of any other character past the last cell (R145). -/
theorem State.processChar_overflow (s : State) (c : Byte) (cursor : BitVec 3) (hc : s.cursor = some cursor)
    (hn : c ≠ colonChar) (h : ¬ cursor.toNat < 4) :
    s.processChar c = ((s.warnGlyph c).log (.bufferOverflow c)).stopPrint := by
  rw [State.processChar, hc, State.reading_some, if_neg hn, State.cellStep, dif_neg h]

/-- Borrowing a cell and advancing leaves the cursor where it is, but at the start, where it advances (R143). -/
theorem advance_borrowCell (cursor : BitVec 3) (start : BitVec 2) :
    advanceCursor (borrowCell cursor start) = if cursor = startCursor start then cursor + 1 else cursor := by
  by_cases h : cursor = startCursor start <;> simp [advanceCursor, borrowCell, h]

/-- What PEND can do past its guard (R147, R237). -/
theorem State.finishPrint_cases (s : State) :
    ((s.cursor = none ∨ s.start = none) ∧ s.finishPrint = s.raiseFault .unwritten) ∨
    ∃ cursor start, s.cursor = some cursor ∧ s.start = some start ∧
      s.finishPrint = s.endPrint (printCount cursor start) := by
  cases hc : s.cursor <;> cases hs : s.start <;> simp [State.finishPrint, hc, hs]

/-- What RENDER can do past its guard (R170, R237). -/
theorem State.sendFrame_cases (s : State) :
    (s.level = none ∧ s.sendFrame = s.raiseFault .levelUnset) ∨
    ∃ level, s.level = some level ∧ s.sendFrame = s.emitAll (frameRequests s level) := by
  cases h : s.level <;> simp [State.sendFrame, h]

/-- What ASTEP can do in auto mode (R192, R193). -/
theorem State.autoStep_cases (s : State) :
    (holdsLevel s ∧ s.autoStep = s) ∨
    (¬ holdsLevel s ∧ s.autoStep = s.logMismatch.setLevel (nextLevel s.rom s.sig)) := by
  by_cases h : holdsLevel s
  · exact .inl ⟨h, if_pos h⟩
  · exact .inr ⟨h, if_neg h⟩

end Sys2Proof.Machine
end

