-- ==== Sys2Proof/Laws/Claims.lean ====
section
/-! SUPPORT. The terms of Safety in the machine's own: the codes and signals the policies let through, the satisfied
thresholds, what is fixed of the glyph ROM, the ROMs of a configuration that passes the check,
and what is observed of a run. -/

namespace Sys2Proof.Machine

/-- A code the policy accepts is not refused for its value. -/
theorem not_rejectsCode {rom : Rom} {c : Byte} (h : rom.accepts c) : ¬ rejectsCode rom c := by
  rintro ⟨hp, hr⟩
  rcases h with h | h
  · rw [hp] at h; cases h
  · exact hr h

/-- A signal the policy samples does not hold the level. -/
theorem not_holdsLevel {s : State} (h : s.rom.samples s.sig) : ¬ holdsLevel s := by
  rintro ⟨hp, hn⟩
  rcases h with h | h
  · rw [hp] at h; cases h
  · exact h hn

/-- The comparison ASTEP makes is the one R193 and R194 give for the port's value. -/
theorem satisfies_effective_iff (s : State) (t : Rat) :
    satisfies s.rom.guard (effective s.sig) t = true ↔ s.exceeds t := by
  unfold State.exceeds
  cases s.sig <;> simp [effective, satisfies]

/-- U and P of a code in range (R101). -/
theorem encodeGlyph_of_mem (rom : Rom) (c : Byte) (h : inGlyphRange c) :
    encodeGlyph rom c = (unsupportedBit (rom.glyph[c.toNat - 0x20]'(by have := h.2; omega)),
      patternBits (rom.glyph[c.toNat - 0x20]'(by have := h.2; omega))) := by
  rw [encodeGlyph, dif_pos h]
  rfl

/-- A code out of range gives the sentinel (R102). -/
theorem encodeGlyph_of_not_mem (rom : Rom) (c : Byte) (h : ¬ inGlyphRange c) : encodeGlyph rom c = (true, 0x7F) := by
  simp [encodeGlyph, h, sentinel]

/-- R25 (2), (3), as the encoder shows them. -/
theorem encodeGlyph_unsupported_of_constraints (rom : Rom) (h : glyphConstraints rom.glyph = true) :
    (encodeGlyph rom 0x23).1 = true ∧ (encodeGlyph rom 0x24).1 = true ∧ (encodeGlyph rom 0x31).1 = false ∧
      (encodeGlyph rom 0x32).1 = false ∧ (encodeGlyph rom 0x33).1 = false ∧ (encodeGlyph rom 0x34).1 = false := by
  simp only [glyphConstraints, Bool.and_eq_true, Bool.not_eq_true'] at h
  simpa [encodeGlyph, inGlyphRange, romRead, and_assoc] using h

/-- Every configuration loads a glyph ROM with the words that R25 (2) and (3) fix. -/
@[simp] theorem loadRom_glyphConstraints (c : Config) : glyphConstraints (loadRom c).glyph = true :=
  c.glyphRom.constrained

/-- The positions a text asks for: one for a leading colon, one for each character that is no colon. -/
theorem positionsAsked_eq (text : List Byte) : positionsAsked text =
    (if text.head? = some colonChar then 1 else 0) + (text.filter (fun c => c != colonChar)).length := by
  unfold positionsAsked askedCells
  split <;> simp [Nat.add_comm]

/-- A run of no command ends where it begins, with the environment's answers in place. -/
@[simp] theorem State.run_nil (s : State) (answers : List Answer) :
    s.run [] answers = .next { s with inbox := [], answers := answers } := rfl

/-- A run takes one step for its first command and goes on from there (R59, R269). -/
theorem State.run_cons (s : State) (c : Word × Signal) (cs : List (Word × Signal)) (answers : List Answer) :
    s.run (c :: cs) answers =
      match step (s.withRun (c :: cs) answers) with
      | .next t => steps cs.length t
      | .fault r => .fault r
      | .refused r => .refused r := rfl

/-- Two states are observed alike exactly when they agree on the elements of R20 and on the counts. -/
theorem State.observed_eq_iff (s t : State) : s.observed = t.observed ↔ s.block = t.block ∧ s.counts = t.counts := by
  constructor
  · intro h
    exact ⟨congrArg Observation.state h, congrArg Observation.counts h⟩
  · rintro ⟨h, hc⟩
    have hr : s.block.reqs = t.block.reqs := congrArg State.reqs h
    have he : s.block.events = t.block.events := congrArg State.events h
    exact Observation.mk.injEq .. ▸ ⟨h, hr, he, hc⟩

@[simp] theorem State.block_rom (s : State) : s.block.rom = s.rom := rfl

@[simp] theorem State.block_cell (s : State) : s.block.cell = s.cell := rfl

@[simp] theorem State.block_colon (s : State) : s.block.colon = s.colon := rfl

@[simp] theorem State.block_inverted (s : State) : s.block.inverted = s.inverted := rfl

@[simp] theorem State.block_autoEn (s : State) : s.block.autoEn = s.autoEn := rfl

@[simp] theorem State.block_phase (s : State) : s.block.phase = s.phase := rfl

@[simp] theorem State.block_level (s : State) : s.block.level = s.level := rfl

@[simp] theorem State.block_inPrint (s : State) : s.block.inPrint = s.inPrint := rfl

@[simp] theorem State.block_start (s : State) : s.block.start = s.start := rfl

@[simp] theorem State.block_cursor (s : State) : s.block.cursor = s.cursor := rfl

@[simp] theorem State.block_stopped (s : State) : s.block.stopped = s.stopped := rfl

@[simp] theorem State.block_refused (s : State) : s.block.refused = s.refused := rfl

@[simp] theorem State.block_faulted (s : State) : s.block.faulted = s.faulted := rfl

@[simp] theorem State.block_reqs (s : State) : s.block.reqs = s.reqs := rfl

@[simp] theorem State.block_events (s : State) : s.block.events = s.events := rfl

end Sys2Proof.Machine
end

