-- ==== Sys2Proof/Laws/Inversion.lean ====
section
/-! SUPPORT. Everything each command can do, guard and effect together: if exec answers t, one of these cases holds. The
proofs about all commands go by cases on the command and one of these. -/

namespace Sys2Proof.Machine

variable {s t : State}

theorem next_inj (h : (Host.Outcome.next s : Host.Outcome State Fault Refusal) = .next t) : t = s := by
  cases h
  rfl

theorem exec_setup_cases (h : exec .setup s = .next t) :
    (s.phase = .config ∧ t = (s.emitAll setupRequests).enterRun) ∨ (s.phase = .run ∧ t = s.refuse .phase) := by
  obtain rfl := next_inj h
  exact s.inConfig_cases _

theorem exec_setinv_cases {b : Bool} (h : exec (.setinv b) s = .next t) :
    (s.phase = .config ∧ t = s.setInverted b) ∨ (s.phase = .run ∧ t = s.refuse .phase) := by
  obtain rfl := next_inj h
  exact s.inConfig_cases _

theorem exec_autoen_cases (h : exec .autoen s = .next t) :
    (s.phase = .config ∧ t = s.enableAuto) ∨ (s.phase = .run ∧ t = s.refuse .phase) := by
  obtain rfl := next_inj h
  exact s.inConfig_cases _

theorem exec_setint_cases {n : BitVec 8} (h : exec (.setint n) s = .next t) :
    (s.inPrint = false ∧ t = s.setLevel (clampOperand n)) ∨ (s.inPrint = true ∧ t = s.refuse .protocol) := by
  obtain rfl := next_inj h
  exact s.outsidePrint_cases _

theorem exec_clear_cases (h : exec .clear s = .next t) :
    (s.phase = .run ∧ s.inPrint = false ∧ t = s.clearBuffer) ∨
      ((s.phase = .config ∨ s.inPrint = true) ∧ t = s.refuse .protocol) := by
  obtain rfl := next_inj h
  exact s.inRun_cases _

theorem exec_pbegin_cases {p : BitVec 2} (h : exec (.pbegin p) s = .next t) :
    (s.phase = .run ∧ s.inPrint = false ∧ t = s.beginPrint p) ∨
      ((s.phase = .config ∨ s.inPrint = true) ∧ t = s.refuse .protocol) := by
  obtain rfl := next_inj h
  exact s.inRun_cases _

theorem exec_pchar_cases {c : BitVec 8} (h : exec (.pchar c) s = .next t) :
    (s.phase = .run ∧ s.inPrint = true ∧ t = s.printChar c) ∨
      ((s.phase = .config ∨ s.inPrint = false) ∧ t = s.refuse .protocol) := by
  obtain rfl := next_inj h
  exact s.inPrinting_cases _

theorem exec_pend_cases (h : exec .pend s = .next t) :
    (s.phase = .run ∧ s.inPrint = true ∧ t = s.finishPrint) ∨
      ((s.phase = .config ∨ s.inPrint = false) ∧ t = s.refuse .protocol) := by
  obtain rfl := next_inj h
  exact s.inPrinting_cases _

theorem exec_render_cases (h : exec .render s = .next t) :
    (s.phase = .run ∧ s.inPrint = false ∧ t = s.sendFrame) ∨
      ((s.phase = .config ∨ s.inPrint = true) ∧ t = s.refuse .protocol) := by
  obtain rfl := next_inj h
  exact s.inRun_cases _

theorem exec_astep_cases (h : exec .astep s = .next t) :
    (s.phase = .run ∧ s.inPrint = false ∧ t = if s.autoEn then s.autoStep else s) ∨
      ((s.phase = .config ∨ s.inPrint = true) ∧ t = s.refuse .protocol) := by
  obtain rfl := next_inj h
  exact s.inRun_cases _

/-- What a command's next state can be, over all commands at once: refused, faulted, unchanged, or the effect of its rule.
A property of every one of these is a property of every next state. -/
theorem exec_next_elim {motive : State → Prop} (i : Instr) (h : exec i s = .next t)
    (refuse : ∀ r, motive (s.refuse r))
    (fault : ∀ f, (i = .render ∨ i = .pend ∨ ∃ c, i = .pchar c) → motive (s.raiseFault f))
    (same : motive s)
    (setup : i = .setup → s.phase = .config → motive (s.emitAll setupRequests).enterRun)
    (setinv : ∀ b, i = .setinv b → s.phase = .config → motive (s.setInverted b))
    (autoen : i = .autoen → s.phase = .config → motive s.enableAuto)
    (setint : ∀ n, i = .setint n → s.inPrint = false → motive (s.setLevel (clampOperand n)))
    (clear : i = .clear → s.phase = .run → motive s.clearBuffer)
    (pbegin : ∀ p, i = .pbegin p → s.phase = .run → motive (s.beginPrint p))
    (colon : ∀ cursor start, i = .pchar colonChar → s.inPrint = true → s.cursor = some cursor → s.start = some start →
      s.stopped = some false →
      motive ((s.warnGlyph colonChar).setColon.setCursor (advanceCursor (borrowCell cursor start))))
    (write : ∀ c cursor, i = .pchar c → s.inPrint = true → s.cursor = some cursor → s.stopped = some false →
      ∀ h : cursor.toNat < 4,
      motive (((s.warnGlyph c).writeCell ⟨cursor.toNat, h⟩ (s.glyphByte c)).setCursor (advanceCursor cursor)))
    (overflow : ∀ c cursor, i = .pchar c → s.inPrint = true → s.cursor = some cursor → s.stopped = some false →
      4 ≤ cursor.toNat → motive (((s.warnGlyph c).log (.bufferOverflow c)).stopPrint))
    (pend : ∀ cursor start, i = .pend → s.cursor = some cursor → s.start = some start →
      motive (s.endPrint (printCount cursor start)))
    (render : ∀ level, i = .render → s.level = some level → motive (s.emitAll (frameRequests s level)))
    (astep : i = .astep → s.autoEn = true → motive (s.logMismatch.setLevel (nextLevel s.rom s.sig))) :
    motive t := by
  cases i with
  | setup => rcases exec_setup_cases h with ⟨a, rfl⟩ | ⟨a, rfl⟩; exacts [setup rfl a, refuse _]
  | setinv b => rcases exec_setinv_cases h with ⟨a, rfl⟩ | ⟨a, rfl⟩; exacts [setinv b rfl a, refuse _]
  | autoen => rcases exec_autoen_cases h with ⟨a, rfl⟩ | ⟨a, rfl⟩; exacts [autoen rfl a, refuse _]
  | setint n => rcases exec_setint_cases h with ⟨a, rfl⟩ | ⟨a, rfl⟩; exacts [setint n rfl a, refuse _]
  | clear => rcases exec_clear_cases h with ⟨a, _, rfl⟩ | ⟨a, rfl⟩; exacts [clear rfl a, refuse _]
  | pbegin p => rcases exec_pbegin_cases h with ⟨a, _, rfl⟩ | ⟨a, rfl⟩; exacts [pbegin p rfl a, refuse _]
  | pchar c =>
    rcases exec_pchar_cases h with ⟨_, a, rfl⟩ | ⟨_, rfl⟩
    · rcases s.printChar_cases c with ⟨_, e⟩ | ⟨_, e, _⟩ | ⟨_, _, e⟩ | ⟨_, hs, rfl, cur, st, hc, hst, e⟩ |
        ⟨_, hs, _, cur, hc, hlt, e⟩ | ⟨_, hs, _, cur, hc, hge, e⟩
      all_goals rw [e]
      · exact refuse _
      · exact fault _ (by simp)
      · exact same
      · exact colon _ _ rfl a hc hst hs
      · exact write _ _ rfl a hc hs hlt
      · exact overflow _ _ rfl a hc hs hge
    · exact refuse _
  | pend =>
    rcases exec_pend_cases h with ⟨_, _, rfl⟩ | ⟨_, rfl⟩
    · rcases s.finishPrint_cases with ⟨_, e⟩ | ⟨cur, st, hc, hs, e⟩ <;> rw [e]
      exacts [fault _ (by simp), pend _ _ rfl hc hs]
    · exact refuse _
  | render =>
    rcases exec_render_cases h with ⟨_, _, rfl⟩ | ⟨_, rfl⟩
    · rcases s.sendFrame_cases with ⟨_, e⟩ | ⟨l, hl, e⟩ <;> rw [e]
      exacts [fault _ (by simp), render _ rfl hl]
    · exact refuse _
  | astep =>
    rcases exec_astep_cases h with ⟨_, _, rfl⟩ | ⟨_, rfl⟩
    · split
      · rename_i hauto
        rcases s.autoStep_cases with ⟨_, e⟩ | ⟨_, e⟩ <;> rw [e]
        exacts [same, astep rfl hauto]
      · exact same
    · exact refuse _

end Sys2Proof.Machine
end

