-- ==== Sys2Proof/Laws/PerInstr.lean ====
section
/-! SUPPORT. The family Encoding: every command's word lies in its own row of the opcode map (R71) and its operand fits
its field (R72). -/

namespace Sys2Proof.Laws.Encoding

/-- The command's operand is in range, and its word is selected by its own row's match and mask. -/
def Statement (i : Instr) : Prop := i.wellFormed = true ∧ selects (i.matchWord, i.maskWord) (encode i) = true

theorem setup : Statement .setup := by unfold Statement; decide

theorem setinv (b : Bool) : Statement (.setinv b) := by revert b; unfold Statement; decide

theorem autoen : Statement .autoen := by unfold Statement; decide

theorem setint (n : BitVec 8) : Statement (.setint n) := by revert n; unfold Statement; decide

theorem clear : Statement .clear := by unfold Statement; decide

theorem pbegin (s : BitVec 2) : Statement (.pbegin s) := by revert s; unfold Statement; decide

theorem pchar (c : BitVec 8) : Statement (.pchar c) := by revert c; unfold Statement; decide

theorem pend : Statement .pend := by unfold Statement; decide

theorem render : Statement .render := by unfold Statement; decide

theorem astep : Statement .astep := by unfold Statement; decide

end Sys2Proof.Laws.Encoding
end

