-- ==== Sys2Proof/Laws/Remap.lean ====
section
/-! SUPPORT. What the check of a permutation says, and where each bit of a permuted pattern comes from (R27, R120). -/

namespace Sys2Proof.Machine

/-- The check of R27: every destination is below 7 and no two source bits share one. -/
theorem isBijection_iff (perm : Vector (BitVec 3) 7) :
    isBijection perm = true ↔
      (∀ i : Fin 7, perm[i.val].toNat < 7) ∧ ∀ i j : Fin 7, perm[i.val] = perm[j.val] → i = j := by
  have hl : perm.toList.length = 7 := by simp
  rw [isBijection, Bool.and_eq_true, decide_eq_true_eq, List.all_eq_true, List.nodup_iff_injective_get]
  constructor
  · rintro ⟨h1, h2⟩
    refine ⟨fun i => ?_, fun i j hij => ?_⟩
    · have := h1 perm[i.val] (by simp)
      simpa using this
    · have := @h2 ⟨i.val, by rw [hl]; exact i.isLt⟩ ⟨j.val, by rw [hl]; exact j.isLt⟩ (by simpa using hij)
      simpa [Fin.ext_iff] using this
  · rintro ⟨h1, h2⟩
    refine ⟨fun d hd => ?_, fun a b hab => ?_⟩
    · obtain ⟨k, hk, rfl⟩ := List.getElem_of_mem hd
      rw [hl] at hk
      simpa using h1 ⟨k, hk⟩
    · have ha := a.isLt
      have hb := b.isLt
      simp only [hl] at ha hb
      have := h2 ⟨a.val, ha⟩ ⟨b.val, hb⟩ (by simpa using hab)
      simpa [Fin.ext_iff] using this

/-- `Q[j] <- b` writes bit j and no other. -/
theorem putBit_getLsbD (q : Pattern) (j : BitVec 3) (b : Bool) (hj : j.toNat < 7) (k : Nat) :
    (putBit q j b).getLsbD k = if k = j.toNat then b else q.getLsbD k := by
  have h1 : (1#7 <<< j.toNat).getLsbD k = decide (k = j.toNat) := by
    rw [BitVec.getLsbD_shiftLeft, BitVec.getLsbD_one, Bool.eq_iff_iff]
    simp only [Bool.and_eq_true, decide_eq_true_eq, Bool.not_eq_true', decide_eq_false_iff_not]
    omega
  by_cases hk : k < 7
  · have e : (putBit q j b).getLsbD k = if b then q.getLsbD k || decide (k = j.toNat)
        else q.getLsbD k && !decide (k = j.toNat) := by
      cases b
      · rw [show putBit q j false = q &&& ~~~(1#7 <<< j.toNat) from rfl, BitVec.getLsbD_and, BitVec.getLsbD_not, h1]
        simp [hk]
      · rw [show putBit q j true = q ||| (1#7 <<< j.toNat) from rfl, BitVec.getLsbD_or, h1]
        simp
    rw [e]
    by_cases h : k = j.toNat <;> cases b <;> simp [h]
  · have hne : k ≠ j.toNat := by omega
    simp only [hne, if_false, BitVec.getLsbD_of_ge _ k (by omega : 7 ≤ k)]

/-- A loop of bit copies through a table without shared destinations leaves each copied bit at its destination. -/
theorem copyBits_getLsbD (perm : Vector (BitVec 3) 7) (h : isBijection perm = true) (f : Fin 7 → Bool)
    (l : List (Fin 7)) (q : Pattern) (i : Fin 7) :
    (l.foldl (fun q i => putBit q perm[i.val] (f i)) q).getLsbD perm[i.val].toNat =
      if i ∈ l then f i else q.getLsbD perm[i.val].toNat := by
  obtain ⟨hlt, hinj⟩ := (isBijection_iff perm).mp h
  induction l generalizing q with
  | nil => simp
  | cons j l ih =>
    rw [List.foldl_cons, ih, putBit_getLsbD _ _ _ (hlt j)]
    by_cases hij : i = j
    · subst hij; simp
    · have : perm[i.val].toNat ≠ perm[j.val].toNat := fun e => hij (hinj i j (BitVec.eq_of_toNat_eq e))
      simp [hij, this]

/-- Source bit i of a pattern stands at destination bit `PERM[i]` of its image (R120). -/
theorem permute_getLsbD (perm : Vector (BitVec 3) 7) (h : isBijection perm = true) (p : Pattern) (i : Fin 7) :
    (permute perm p).getLsbD perm[i.val].toNat = p.getLsbD i.val := by
  have hi : i ∈ sourceBits := by revert i; decide
  rw [permute, copyBits_getLsbD perm h (fun i => p.getLsbD i.val), if_pos hi]

/-- Every destination bit has a source bit (R27). -/
theorem isBijection_surjective (perm : Vector (BitVec 3) 7) (h : isBijection perm = true) (k : Nat) (hk : k < 7) :
    ∃ i : Fin 7, perm[i.val].toNat = k := by
  obtain ⟨hlt, hinj⟩ := (isBijection_iff perm).mp h
  let f : Fin 7 → Fin 7 := fun i => ⟨perm[i.val].toNat, hlt i⟩
  have hf : Function.Injective f := fun i j e => hinj i j (BitVec.eq_of_toNat_eq (by simpa [f] using e))
  obtain ⟨i, hi⟩ := Finite.surjective_of_injective hf ⟨k, hk⟩
  exact ⟨i, by simpa [f, Fin.ext_iff] using hi⟩

/-- Bit i of the inverse image is destination bit `PERM[i]` (R122). -/
theorem unpermute_getLsbD (perm : Vector (BitVec 3) 7) (q : Pattern) (i : Fin 7) :
    (unpermute perm q).getLsbD i.val = q.getLsbD perm[i.val].toNat := by
  have hid : isBijection #v[0, 1, 2, 3, 4, 5, 6] = true := by decide
  have hi : i ∈ sourceBits := by revert i; decide
  have key := copyBits_getLsbD #v[0, 1, 2, 3, 4, 5, 6] hid (fun i => q.getLsbD perm[i.val].toNat) sourceBits 0 i
  rw [if_pos hi] at key
  have at_i : (#v[0, 1, 2, 3, 4, 5, 6] : Vector (BitVec 3) 7)[i.val].toNat = i.val := by clear key hi; revert i; decide
  rw [at_i] at key
  exact key

end Sys2Proof.Machine
end

