-- ==== Sys2Proof/Tests/Slice0.lean ====
section
/-! SUPPORT. The model's own tests: words written out from the encoding, the range checks' smoke tests, one-step vectors of
95_test_vectors.md under its illustrative configuration EX1, and for each statement with hypotheses a concrete case that
meets them (the wit_ theorems). -/

namespace Sys2Proof.Tests

open Sys2Proof.Machine

/-- EX1's glyph word of the ROM index (95_test_vectors.md section 1). -/
def ex1Word (i : Nat) : Byte :=
  match i + 0x20 with
  | 0x20 => 0x00 | 0x2D => 0x01 | 0x30 => 0x7E | 0x31 => 0x30 | 0x32 => 0x6D | 0x33 => 0x79 | 0x34 => 0x33
  | 0x35 => 0x5B | 0x36 => 0x5F | 0x37 => 0x70 | 0x38 => 0x7F | 0x39 => 0x7B | 0x3A => 0x00 | 0x41 => 0x77
  | 0x62 => 0x1F
  | _ => 0xFF

/-- EX1 (95_test_vectors.md section 1). -/
def ex1 : Config where
  glyphRom := ⟨⟨((List.range 95).map ex1Word).toArray, by simp⟩, by decide⟩
  permN := #v[6, 5, 4, 3, 2, 1, 0]
  permI := #v[6, 2, 1, 0, 5, 4, 3]
  colonOn := 0x02
  thr := [.fin 10, .fin 50, .fin 100]
  lvlCfg := [1, 5, 10]
  guard := 103 / 100
  levelReset := some 15
  nMax := none
  oorPolicy := .clamp
  nanPolicy := .zero

/-- After reset under EX1. -/
def fresh : State := State.boot ex1

/-- In RUN, outside a print, with answers ready. -/
def running : State := { fresh with phase := .run, answers := List.replicate 8 ⟨true, 0⟩ }

/-- In a print begun at `p` whose cursor stands at `c`. -/
def printing (p : BitVec 2) (c : BitVec 3) : State :=
  { running with inPrint := true, start := some p, cursor := some c, stopped := some false }

/-- The next state of an outcome. -/
def after (o : Host.Outcome State Fault Refusal) : Option State :=
  match o with
  | .next s => some s
  | .fault _ => none
  | .refused _ => none

/-- `running` with other ROM parameters. -/
def runningWith (change : Rom → Rom) : State := { running with rom := change running.rom }

/-- The state with its auto mode on and this signal on the port. -/
def sampling (v : Signal) : State := { running with autoEn := true, sig := v }

/-! ## Decoding, words written out from R71 -/

theorem test_decode_setup : decode 0b0001000000000000 = .ok .setup := by decide
theorem test_decode_setinv : decode 0b0010000000000001 = .ok (.setinv true) := by decide
theorem test_decode_autoen : decode 0b0011000000000000 = .ok .autoen := by decide
/-- R72: the operand is w[7:0], here 0b10000001. -/
theorem test_decode_setint : decode 0b0100000010000001 = .ok (.setint 129) := by decide
theorem test_decode_clear : decode 0b0101000000000000 = .ok .clear := by decide
/-- R72: the operand is w[1:0], here 0b10. -/
theorem test_decode_pbegin : decode 0b0110000000000010 = .ok (.pbegin 2) := by decide
theorem test_decode_pchar : decode 0b0111000000110001 = .ok (.pchar 0x31) := by decide
theorem test_decode_pend : decode 0b1000000000000000 = .ok .pend := by decide
theorem test_decode_render : decode 0b1001000000000000 = .ok .render := by decide
theorem test_decode_astep : decode 0b1010000000000000 = .ok .astep := by decide

/-- Vectors X-1 to X-7. -/
theorem test_decode_refuses :
    [0x0000, 0xB000, 0xFFFF].map decode = List.replicate 3 (.error .reservedOpcode) ∧
    [0x2002, 0x1001, 0x4100, 0x6004].map decode = List.replicate 4 (.error .reservedBits) := by decide

theorem test_decodeTableWord : decodeTableWord 16 0x6003 = some (.pbegin 3) ∧ decodeTableWord 16 0x6004 = none ∧
    decodeTableWord 24 0x6003 = none := by decide

/-! ## Range checks: an ill-formed term for each -/

theorem test_wellFormed_setinv : (SourceLine.setinv 2).wellFormed = false := by decide
theorem test_wellFormed_setint : (SourceLine.setint 256).wellFormed = false := by decide
theorem test_wellFormed_pbegin : (SourceLine.pbegin 4).wellFormed = false := by decide
theorem test_wellFormed_pchar : (SourceLine.pchar 256).wellFormed = false := by decide
theorem test_wellFormed_print_start : (SourceLine.print ⟨4, [0x31]⟩).wellFormed = false := by decide
theorem test_wellFormed_print_text : (SourceLine.print ⟨0, [0x31, 256]⟩).wellFormed = false := by decide
theorem test_wellFormed_update : (SourceLine.update [⟨0, []⟩, ⟨4, []⟩]).wellFormed = false := by decide
theorem test_wellFormed_largest : (Instr.setint 255).wellFormed = true ∧ (Instr.pbegin 3).wellFormed = true ∧
    (SourceLine.print ⟨3, [255]⟩).wellFormed = true := by decide

/-- EX1 is a configuration the check admits, and it meets the constraints of R25. -/
theorem test_config_ex1 : configValid ex1 = true ∧ glyphConstraints ex1.glyphRom.words = true := by decide
/-- 95_test_vectors.md section 9: PERM_N is no bijection. -/
theorem test_config_permN : configValid { ex1 with permN := #v[0, 0, 1, 2, 3, 4, 5] } = false := by decide
theorem test_config_permI : configValid { ex1 with permI := #v[7, 2, 1, 0, 5, 4, 3] } = false := by decide
/-- 95_test_vectors.md section 9: THR of length 3 with LVL_CFG of length 2. -/
theorem test_config_lengths : configValid { ex1 with lvlCfg := [1, 5] } = false := by decide
theorem test_config_bound : configValid { ex1 with nMax := some 2 } = false ∧
    configValid { ex1 with nMax := some 3 } = true := by decide
theorem test_config_finite : configValid { ex1 with thr := [.fin 10, .nan, .fin 100] } = false ∧
    configValid { ex1 with thr := [.fin 10, .posInf, .fin 100] } = false := by decide
/-- 95_test_vectors.md section 9: a ROM word 0x80. -/
theorem test_config_sentinel : configValid { ex1 with glyphRom := ⟨ex1.glyphRom.words.set 0 0x80, by decide⟩ } = false := by decide

/-- R25 (2), (3): contents in which '#' is supported, or '1' is not, are no glyph ROM of this hardware. -/
theorem test_config_glyphConstraints : glyphConstraints (ex1.glyphRom.words.set 0x03 0x00) = false ∧
    glyphConstraints (ex1.glyphRom.words.set 0x11 0xFF) = false := by decide

/-! ## One step, vectors of 95_test_vectors.md -/

/-- Vector S-2: SETUP with answers 0, 1, 1, 0. -/
theorem test_setup_failures :
    (after (exec .setup { fresh with answers := [⟨false, 0⟩, ⟨true, 0⟩, ⟨true, 0⟩, ⟨false, 0⟩] })).map
      (fun t => (t.reqs, t.events, t.phase)) =
    some ([(.cmd 0x21, false), (.rd 0x21, true), (.cmd 0x81, true), (.rd 0x81, false)],
      [.transportFailure (.cmd 0x21), .transportFailure (.rd 0x81)], .run) := by decide

/-- Vector X-8: SETINV in RUN. -/
theorem test_setinv_in_run : (after (exec (.setinv true) running)).map (fun t => (t.inverted, t.refused)) =
    some (false, true) := by decide

/-- R191: reset, AUTOEN gives auto_en = 1. -/
theorem test_autoen : (after (exec .autoen fresh)).map (fun t => (t.autoEn, t.phase)) = some (true, .config) := by decide

/-- 95_test_vectors.md section 7: 4010 and 40C8 give 15, 4003 gives 3. -/
theorem test_setint :
    [0x10, 0xC8, 0x03].map (fun n => (after (exec (.setint n) fresh)).map (fun t => t.level)) =
    [some (some 15), some (some 15), some (some 3)] := by decide

/-- Vector C-1. -/
theorem test_clear :
    (after (exec .clear { running with cell := #v[0x06, 0x5B, 0x4F, 0x66], colon := true })).map
      (fun t => (t.cell, t.colon, t.level)) = some (#v[0, 0, 0, 0], false, some 15) := by decide

/-- R141: PBEGIN 2 gives start = 2, cursor = 2. -/
theorem test_pbegin : (after (exec (.pbegin 2) running)).map (fun t => (t.inPrint, t.start, t.cursor, t.stopped)) =
    some (true, some 2, some 2, some false) := by decide

/-- R144: PCHAR '#' at cursor 1 warns, writes 0x7F and moves to 2. -/
theorem test_pchar_unsupported : (after (exec (.pchar 0x23) (printing 0 1))).map (fun t => (t.cell, t.cursor, t.events)) =
    some (#v[0, 0x7F, 0, 0], some 2, [.unsupportedGlyph 0x23]) := by decide

/-- R143: a leading colon skips the cell at the start; vector P-6 begins so. -/
theorem test_pchar_colon : (after (exec (.pchar 0x3A) (printing 3 3))).map (fun t => (t.cell, t.colon, t.cursor)) =
    some (#v[0, 0, 0, 0], true, some 4) := by decide

/-- Vector P-12: the print of "123" from start 2 returns 2. -/
theorem test_pend : (after (exec .pend { printing 2 4 with stopped := some true })).map (fun t => (t.counts, t.inPrint)) =
    some ([2], false) := by decide

/-- Vector R-2: inverted, level 7. -/
theorem test_render_inverted :
    (after (exec .render { running with
      inverted := true, level := some 7, colon := true, cell := #v[0x30, 0x5B, 0x79, 0x74] })).map
      (fun t => t.reqs.map Prod.fst) =
    some [.wr 0x00 0x74, .wr 0x02 0x79, .wr 0x06 0x5B, .wr 0x08 0x30, .wr 0x04 0x02, .cmd 0xE7, .rd 0xE7] := by decide

/-- Vector R-6: answers 1, 0, 1, 1, 1, 0, 1. -/
theorem test_render_failures :
    (after (exec .render { running with
      cell := #v[0x06, 0x5B, 0, 0],
      answers := [true, false, true, true, true, false, true].map (fun ok => ⟨ok, 0⟩) })).map (fun t => t.events) =
    some [.transportFailure (.wr 0x02 0x5B), .transportFailure (.cmd 0xEF)] := by decide

/-- 95_test_vectors.md section 7, the column T8: 51, 103, 51.51 and 1000. -/
theorem test_astep_table :
    [51, 103, 5151 / 100, 1000].map (fun q => (after (exec .astep (sampling (.fin q)))).map (fun t => t.level)) =
    [some (some 1), some (some 5), some (some 5), some (some 10)] := by decide +kernel

/-- 95_test_vectors.md section 7: Absent gives level 0 and one event, NegInf level 0 and none. -/
theorem test_astep_absent :
    [Signal.absent, .negInf].map (fun v => (after (exec .astep (sampling v))).map (fun t => (t.level, t.events))) =
    [some (some 0, [.signalSourceMismatch]), some (some 0, [])] := by decide +kernel

/-- 95_test_vectors.md section 3: '8' is supported, '#' and 0x7F are not. -/
theorem test_encode : [0x38, 0x23, 0x7F, 0x31].map (encodeGlyph fresh.rom) =
    [(false, 0x7F), (true, 0x7F), (true, 0x7F), (false, 0x30)] := by decide

/-- 95_test_vectors.md section 4: '4' (0x33) in both orientations, source bit 1 in both. -/
theorem test_remap : [false, true].map (fun o => (remap fresh.rom o 0x33, remap fresh.rom o 0x02)) =
    [(0x66, 0x20), (0x74, 0x04)] := by decide

/-! ## The step, the assembler -/

/-- Vector X-1: the word 0000 is refused. -/
theorem test_step_refuses : (after (step (fresh.withFetchWord 16 0x0000))).map (fun t => (t.refused, t.refusals, t.inbox)) =
    some (true, [.reservedOpcode], []) := by decide

/-- The word presented next runs next. -/
theorem test_step_runs : (after (step (fresh.withFetchWord 16 0x4003))).map (fun t => (t.level, t.inbox)) =
    some (some 3, []) := by decide

/-- The line PRINT 2, "#" of Program 4. -/
theorem test_assemble_print : assembleProgram [[80, 82, 73, 78, 84, 32, 50, 44, 32, 34, 35, 34]] =
    .ok [0x6002, 0x7023, 0x8000] := by decide

/-- R76: `SETINV 2` is an error, `PCHAR 'A' ; x` and `SETINT 0x1F` are commands. -/
theorem test_assemble_lines :
    [[83, 69, 84, 73, 78, 86, 32, 50], [80, 67, 72, 65, 82, 32, 39, 65, 39, 32, 59, 32, 120],
      [83, 69, 84, 73, 78, 84, 32, 48, 120, 49, 70]].map assembleText =
    [.error .outOfRange, .ok [.pchar 0x41], .ok [.setint 31]] := by decide

/-- Vector X-11 as a run: RENDER in CONFIG is refused, the run is not final, and nothing else of the block has changed. -/
theorem test_run_refused :
    (after (fresh.run [(0x9000, .absent)] [])).map (fun t => (decide t.final, t.observed)) =
    some (false, { fresh.observed with state := { fresh.block with refused := true } }) := by decide +kernel

/-! ## Witnesses: each statement's hypotheses are met -/

theorem wit_DecodeOfEncode : (Instr.setint 255).wellFormed = true ∧ decode (encode (.setint 255)) = .ok (.setint 255) := by
  decide

theorem wit_EncodeOfDecode : decode 0x40FF = .ok (.setint 255) ∧ encode (.setint 255) = 0x40FF := by decide

/-- One case per clause, at the edges of the reserved rows. -/
theorem wit_MaskAndMatchSelectTheCommand :
    decode 0x6003 = .ok (.pbegin 3) ∧ ((0x6000, 0xFFFC) ∈ opcodeRows ∧ selects (0x6000, 0xFFFC) 0x6003 = true) ∧
    (0x0FFF : Word) &&& 0xF000 = 0x0000 ∧ 0xB000 ≤ (0xB000 : Word).toNat := by decide

theorem wit_OperandsAreTheLowBits : decode 0x70FF = .ok (.pchar 255) ∧ (Instr.pchar 255).operand = 255 := by decide

/-- One word per clause, at the edges of the ranges. -/
theorem wit_EveryWordIsOneRowOrRefused :
    decode 0xA000 = .ok .astep ∧ [0x1001, 0xAFFF].map decode = List.replicate 2 (.error .reservedBits) ∧
    [0x0FFF, 0xB000].map decode = List.replicate 2 (.error .reservedOpcode) := by decide

/-- An ill-formed line, and the ends of the ranges. -/
theorem wit_SourceLinesExpand : (SourceLine.pbegin 4).wellFormed = false ∧ 1 < 2 ∧ (3 ≤ 3 ∧ ∀ c ∈ [0, 255], c ≤ 255) ∧
    ∀ p ∈ [PrintSpec.mk 3 [0, 255]], p.start ≤ 3 ∧ ∀ c ∈ p.text, c ≤ 255 := by decide

theorem wit_StepRunsDecodedCommand :
    { fresh with inbox := [.command 0x40FF .nan] }.inbox = Input.command 0x40FF .nan :: [] ∧
    decode 0x40FF = .ok (.setint 255) ∧ (Instr.setint 255).wellFormed = true := by decide

/-- The two clauses of the reserved opcodes at their edges, then the reserved bits at theirs. -/
theorem wit_StepRefusesReservedWord :
    { fresh with inbox := [.command 0xB000 .nan] }.inbox = Input.command 0xB000 .nan :: [] ∧
    (opField 0x0FFF).toNat = 0x0 ∧ 0xB ≤ (opField 0xB000).toNat ∧
    (0x1 ≤ (opField 0x1001).toNat ∧ (opField 0x1001).toNat ≤ 0xA ∧ ∀ row ∈ opcodeRows, selects row 0x1001 = false) ∧
    0x1 ≤ (opField 0xA001).toNat ∧ (opField 0xA001).toNat ≤ 0xA ∧ ∀ row ∈ opcodeRows, selects row 0xA001 = false :=
  ⟨rfl, by decide, by decide, ⟨by decide, by decide, by simp [opcodeRows, selects]⟩,
    by decide, by decide, by simp [opcodeRows, selects]⟩

theorem wit_StepAlwaysAnswersNext : running.inbox = [] := by decide

theorem wit_ResetLeavesTableValues :
    { running with inbox := [.reset ex1] }.inbox = Input.reset ex1 :: [] ∧ configValid ex1 = true :=
  ⟨rfl, by decide⟩

theorem wit_ResetRefusesBadConfig :
    { running with inbox := [.reset { ex1 with lvlCfg := [] }] }.inbox = Input.reset { ex1 with lvlCfg := [] } :: [] ∧
    configValid { ex1 with lvlCfg := [] } = false :=
  ⟨rfl, by decide⟩

/-- Levels below, inside and above [0,15]. -/
theorem wit_LevelsClampedAtLoad :
    ([-1, 15, 16] : List Int)[0]? = some (-1) ∧ ([-1, 15, 16] : List Int)[2]? = some 16 ∧
    (after (exec .setup fresh)).isSome = true := by decide

/-- A yes cell and a refused cell in each column of the table, and codes at the ends of what each policy takes. -/
theorem wit_CommandLegalityTable :
    (ConfigNotPrinting fresh ∧ ConfigNotPrinting running ∧ ConfigNotPrinting (printing 0 0)) ∧
    legality .setup fresh.phase fresh.inPrint = none ∧ legality .render fresh.phase fresh.inPrint = some .protocol ∧
    legality .clear running.phase running.inPrint = none ∧ legality .setup running.phase running.inPrint = some .phase ∧
    (legality (.pchar 0xFF) (printing 0 0).phase (printing 0 0).inPrint = none ∧ (printing 0 0).rom.accepts 0xFF ∧
      Rom.accepts { fresh.rom with oorPolicy := .reject } 0x7E) ∧
    legality (.setint 0) (printing 0 0).phase (printing 0 0).inPrint = some .protocol := by decide

/-- Both codes next to the range. -/
theorem wit_RejectPolicyRefusesCode :
    ({ printing 0 0 with rom := { fresh.rom with oorPolicy := .reject } }.phase = .run ∧
      { printing 0 0 with rom := { fresh.rom with oorPolicy := .reject } }.inPrint = true ∧
      { printing 0 0 with rom := { fresh.rom with oorPolicy := .reject } }.rom.oorPolicy = .reject) ∧
    (0x1F : BitVec 8).toNat < 0x20 ∧ 0x7E < (0x7F : BitVec 8).toNat := by decide

theorem wit_SetupStartsDisplay : fresh.phase = .config := by decide
theorem wit_SetinvSetsOrientation : fresh.phase = .config := by decide
theorem wit_AutoenEnablesAuto : fresh.phase = .config := by decide
/-- In both phases. -/
theorem wit_SetintClampsLevel : fresh.inPrint = false ∧ running.inPrint = false := by decide

theorem wit_AstepInertWhenDisabled : running.phase = .run ∧ running.inPrint = false ∧ running.autoEn = false := by decide

/-- The premises of the clauses as well: no threshold exceeded at 9; at 60 the second exceeded and not the third; a signal
the hold policy takes. -/
theorem wit_AstepStoresLastSatisfied :
    ((sampling (.fin 9)).phase = .run ∧ (sampling (.fin 9)).inPrint = false ∧ (sampling (.fin 9)).autoEn = true ∧
      (sampling (.fin 9)).rom.samples (.fin 9) ∧ Rom.samples { fresh.rom with nanPolicy := .hold } (.fin 9) ∧
      (sampling (.fin 9)).rom.thr.length = (sampling (.fin 9)).rom.lvl.length) ∧
    ((sampling (.fin 9)).rom.thr = [10, 50, 100] ∧ ¬ (sampling (.fin 9)).exceeds 10 ∧
      ¬ (sampling (.fin 9)).exceeds 50 ∧ ¬ (sampling (.fin 9)).exceeds 100) ∧
    (sampling (.fin 60)).rom.thr[1]? = some 50 ∧ (sampling (.fin 60)).exceeds 50 ∧
      (sampling (.fin 60)).rom.thr[2]? = some 100 ∧ ¬ (sampling (.fin 60)).exceeds 100 := by
  simp only [← satisfies_effective_iff]
  decide +kernel

theorem wit_HoldPolicyKeepsLevel :
    (runningWith fun r => { r with nanPolicy := .hold }).phase = .run ∧
    (runningWith fun r => { r with nanPolicy := .hold }).inPrint = false ∧
    (runningWith fun r => { r with nanPolicy := .hold }).rom.nanPolicy = .hold ∧
    { runningWith (fun r => { r with nanPolicy := .hold }) with sig := .nan }.sig = .nan := by decide

/-- The premises of each clause: a sampling state, an empty table, EX1's last entry at 104, a negative threshold. -/
theorem wit_AstepCornerCases :
    ((sampling .nan).phase = .run ∧ (sampling .nan).inPrint = false ∧ (sampling .nan).autoEn = true ∧
      (sampling .nan).rom.samples .nan ∧ (sampling .nan).rom.thr.length = (sampling .nan).rom.lvl.length) ∧
    (runningWith fun r => { r with thr := [] }).rom.thr = [] ∧
    (([10, 50] : List Rat).length = ([1, 5] : List (BitVec 4)).length ∧ fresh.rom.thr = [10, 50] ++ [100] ∧
      fresh.rom.lvl = [1, 5] ++ [10] ∧ satisfies fresh.rom.guard (effective (.fin 104)) 100 = true) ∧
    (-1 : Rat) < 0 := by decide +kernel

theorem wit_LevelGrowsWithSignal :
    0 ≤ fresh.rom.guard ∧ fresh.rom.thr.length = fresh.rom.lvl.length ∧ fresh.rom.thr.Pairwise (· ≤ ·) ∧
    fresh.rom.lvl.Pairwise (fun a b => a.toNat ≤ b.toNat) ∧ (9 : Rat) ≤ 60 := by decide +kernel

theorem wit_ClearBlanksBuffer : running.phase = .run ∧ running.inPrint = false := by decide
theorem wit_PbeginBeginsPrint : running.phase = .run ∧ running.inPrint = false := by decide

/-- A leading colon, and a colon at cursor 4. -/
theorem wit_PcharColonBranch :
    ((printing 3 3).phase = .run ∧ (printing 3 3).inPrint = true ∧ (printing 3 3).stopped = some false ∧
      (printing 3 3).cursor = some 3 ∧ (printing 3 3).start = some 3 ∧ (3 : BitVec 3).toNat = (3 : BitVec 2).toNat) ∧
    ((printing 0 4).cursor = some 4 ∧ (printing 0 4).start = some 0 ∧ (4 : BitVec 3).toNat ≠ (0 : BitVec 2).toNat) := by
  decide

/-- The last cell; a legal ROM and an unsupported character for the clause of the sentinel. -/
theorem wit_PcharWriteBranch :
    ((3 : BitVec 3).toNat < 4 ∧ (printing 0 3).phase = .run ∧ (printing 0 3).inPrint = true ∧
      (printing 0 3).rom.accepts 0x23 ∧ (printing 0 3).stopped = some false ∧ (printing 0 3).cursor = some 3 ∧
      (0x23 : BitVec 8) ≠ 0x3A) ∧
    (printing 0 3).rom.legal ∧ (encodeGlyph (printing 0 3).rom 0x23).1 = true := by
  unfold Rom.legal
  decide

theorem wit_PcharOverflowBranch :
    4 ≤ (4 : BitVec 3).toNat ∧ (printing 0 4).phase = .run ∧ (printing 0 4).inPrint = true ∧
    (printing 0 4).rom.accepts 0x35 ∧ (printing 0 4).stopped = some false ∧ (printing 0 4).cursor = some 4 ∧
    (0x35 : BitVec 8) ≠ 0x3A := by decide

theorem wit_PcharAfterOverflow :
    { printing 0 4 with stopped := some true }.phase = .run ∧ { printing 0 4 with stopped := some true }.inPrint = true ∧
    { printing 0 4 with stopped := some true }.rom.accepts 0x00 ∧
    { printing 0 4 with stopped := some true }.stopped = some true := by decide

/-- A print that has reached the end of the display, from its largest start. -/
theorem wit_PendReturnsCount :
    (printing 3 4).phase = .run ∧ (printing 3 4).inPrint = true ∧ (printing 3 4).cursor = some 4 ∧
    (printing 3 4).start = some 3 ∧ PrintRange (printing 3 4) :=
  ⟨rfl, rfl, rfl, rfl, fun _ => ⟨3, 4, false, rfl, rfl, rfl, by decide, by decide, by decide⟩⟩

/-- Each unset register in turn, and each reading command. -/
theorem wit_UnsetPrintRegisterFaults :
    ((printing 0 0).phase = .run ∧ (printing 0 0).inPrint = true ∧ (printing 0 0).rom.accepts 0x00) ∧
    { printing 0 0 with stopped := none }.stopped = none ∧
    ({ printing 0 0 with cursor := none }.stopped = some false ∧ { printing 0 0 with cursor := none }.cursor = none) ∧
    ({ printing 0 0 with start := none }.stopped = some false ∧ { printing 0 0 with start := none }.start = none) := by
  decide

/-- Both ends of the range, and both codes next to it. -/
theorem wit_EncodeReadsRomWord :
    (0x20 ≤ (0x20 : Byte).toNat ∧ (0x20 : Byte).toNat ≤ 0x7E) ∧ (0x20 ≤ (0x7E : Byte).toNat ∧ (0x7E : Byte).toNat ≤ 0x7E) ∧
    (0x1F : Byte).toNat < 0x20 ∧ 0x7E < (0x7F : Byte).toNat := by decide

/-- EX1's ROMs are legal and its check passes; two configurations may share a glyph ROM and differ elsewhere. -/
theorem wit_EncoderLaws :
    fresh.rom.legal ∧ configValid ex1 = true ∧ (encodeGlyph fresh.rom 0x7E).1 = true ∧
    (0x1F : Byte).toNat < 0x20 ∧ 0x7E < (0x7F : Byte).toNat ∧ (0x31 : Byte) ∈ [0x31, 0x32, 0x33, 0x34] ∧
    fresh.rom.glyph = { fresh.rom with colonOn := 0 }.glyph ∧ (after (exec .clear running)).isSome = true := by
  unfold Rom.legal
  decide

theorem wit_RemapBijectionLaws :
    isBijection (permOf fresh.rom false) = true ∧ isBijection (permOf fresh.rom true) = true := by decide

/-- Both orientations. -/
theorem wit_CellOrderMux :
    fresh.cell = #v[0, 0, 0, 0] ∧ fresh.inverted = false ∧ { fresh with inverted := true }.inverted = true := by decide

theorem wit_RenderHandsFrame : running.phase = .run ∧ running.inPrint = false ∧ running.level = some 15 := by decide

theorem wit_RenderUnsetLevelFaults :
    { running with level := none }.phase = .run ∧ { running with level := none }.inPrint = false ∧
    { running with level := none }.level = none := by decide

theorem wit_RenderTwiceSameRequests : running.phase = .run ∧ running.inPrint = false ∧ running.level = some 15 := by decide

/-- The premises, with an answer of each kind to the first two requests. -/
theorem wit_FailedWriteKeepsOldByte :
    running.phase = .run ∧ running.inPrint = false ∧ running.level = some 15 ∧
    ({ running with answers := [⟨true, 0⟩, ⟨false, 0⟩] }.answerAt 0).ok = true ∧
    ({ running with answers := [⟨true, 0⟩, ⟨false, 0⟩] }.answerAt 1).ok = false := by decide

/-- Two cycles with prints, the second with NaN on the port. -/
theorem wit_DimmingLatency :
    (sampling (.fin 60)).phase = .run ∧ (sampling (.fin 60)).inPrint = false ∧ (sampling (.fin 60)).level = some 15 ∧
    (sampling (.fin 60)).autoEn = true ∧ (sampling (.fin 60)).rom.samples (.fin 60) ∧
    (∀ p ∈ [((3 : BitVec 2), [(0x31 : Byte), 0x32])] ++ [(0, [0x3A, 0xFF])], ∀ c ∈ p.2,
      (sampling (.fin 60)).rom.accepts c) ∧
    (sampling (.fin 60)).rom.samples .nan := by decide

/-- At the largest start: cell 2 lies before it, cell 3 gets the first character, and the second finds no cell. -/
theorem wit_PrintProcessesText :
    running.phase = .run ∧ running.inPrint = false ∧ (∀ c ∈ [(0x31 : Byte), 0xFF], running.rom.accepts c) ∧
    (2 : Fin 4).val < (3 : BitVec 2).toNat ∧ (3 : BitVec 2).toNat ≤ (3 : Fin 4).val ∧
    (askedCells [0x31, 0xFF])[3 - 3]? = some (some 0x31) ∧ (askedCells [0x3A, 0x31])[0]? = some none := by decide

/-- EX1's stored bytes of '1' to '4'. -/
theorem wit_SourcePrintExamples :
    running.phase = .run ∧ running.inPrint = false ∧
    running.glyphByte 0x31 = 0x06 ∧ running.glyphByte 0x32 = 0x5B ∧ running.glyphByte 0x33 = 0x4F ∧
    running.glyphByte 0x34 = 0x66 := by decide

/-- "1:2" from 1, then "3:4" from 3, which overflows. -/
theorem wit_TwoPrintsMeet :
    running.phase = .run ∧ running.inPrint = false ∧
    (∀ c ∈ [(0x31 : Byte), 0x3A, 0x32] ++ [0x33, 0x3A, 0x34], running.rom.accepts c) ∧
    (3 : BitVec 2).toNat = (1 : BitVec 2).toNat + positionsAsked [0x31, 0x3A, 0x32] ∧
    [(0x33 : Byte), 0x3A, 0x34].head? ≠ some 0x3A := by decide

/-- Steps that change an element: the premises of the clauses. -/
theorem wit_OnlyItsWritersChangeAnElement :
    (after (exec (.pchar 0x31) (printing 0 0))).map (fun t => (t.cell ≠ (printing 0 0).cell : Bool)) = some true ∧
    (after (exec (.pchar 0x3A) (printing 0 0))).map (fun t => (t.colon ≠ (printing 0 0).colon : Bool)) = some true ∧
    (after (exec (.setinv true) fresh)).map (fun t => (t.inverted ≠ fresh.inverted : Bool)) = some true ∧
    (after (exec .autoen fresh)).map (fun t => (t.autoEn ≠ fresh.autoEn : Bool)) = some true ∧
    (after (exec .setup { fresh with answers := running.answers })).map
      (fun t => (t.phase ≠ fresh.phase ∧ t.reqs ≠ fresh.reqs : Bool)) = some true ∧
    (after (exec (.setint 3) fresh)).map (fun t => (t.level ≠ fresh.level : Bool)) = some true ∧
    (after (exec (.pbegin 1) running)).map
      (fun t => (t.inPrint ≠ running.inPrint ∧ t.start ≠ running.start ∧ t.cursor ≠ running.cursor ∧
        t.stopped ≠ running.stopped : Bool)) = some true ∧
    (after (exec (.pchar 0x23) (printing 0 0))).map (fun t => (t.events ≠ (printing 0 0).events : Bool)) = some true ∧
    (after (exec .pend (printing 0 4))).map (fun t => (t.counts ≠ (printing 0 4).counts : Bool)) = some true ∧
    (after (exec .render { running with level := none })).map (fun t => (t.faulted ≠ none : Bool)) = some true := by
  decide

theorem wit_RunPhaseIsForGood : (after (exec (.setinv true) running)).isSome = true ∧ running.phase = .run := by decide

theorem wit_MarksAreNeverCleared :
    (after (exec .clear { running with refused := true, faulted := some .levelUnset })).isSome = true ∧
    { running with refused := true }.refused = true ∧ { running with faulted := some .levelUnset }.faulted ≠ none := by
  decide

theorem wit_HistoriesAreAppendOnly : (after (exec .render running)).isSome = true := by decide
theorem wit_OnlyListedDeviceBytes : (after (exec .render running)).isSome = true := by decide

theorem wit_ReadBytesAreDiscarded :
    (after (exec .render running)).isSome = true ∧
    (List.replicate 8 (⟨true, 0xFF⟩ : Answer)).map Answer.ok = running.answers.map Answer.ok := by decide

/-- A state in a print, about to process a character. -/
theorem wit_StepKeepsDisplayInvariant :
    CellsNarrow (printing 3 3) ∧ PrintRange (printing 3 3) ∧ ConfigNotPrinting (printing 3 3) ∧
    CellsNarrow ((printing 3 3).withFetchWord 16 0x7031) ∧ PrintRange ((printing 3 3).withFetchWord 16 0x7031) ∧
    ConfigNotPrinting ((printing 3 3).withFetchWord 16 0x7031) ∧
    (after (step ((printing 3 3).withFetchWord 16 0x7031))).isSome = true :=
  ⟨by decide, fun _ => ⟨3, 3, false, rfl, rfl, rfl, by decide, by decide, by decide⟩, by decide, by decide,
    fun _ => ⟨3, 3, false, rfl, rfl, rfl, by decide, by decide, by decide⟩, by decide, by decide⟩

theorem wit_ResetMeetsInvariants : (State.boot ex1).refused = false := by decide

theorem wit_StepKeepsLegalRoms :
    glyphConstraints running.rom.glyph = true ∧ (running.refused = false → running.rom.legal) ∧
    running.refused = false ∧
    (after (step (running.withFetchWord 16 0x5000))).map (fun t => t.refused) = some false := by
  unfold Rom.legal
  decide

/-- The fault the statement speaks of, from a state outside a print. -/
theorem wit_OnlyRenderFaultsInARun :
    PrintRange { running with level := none } ∧
    (after (exec .render { running with level := none })).map (fun t => t.faulted) = some (some .levelUnset) :=
  ⟨by intro h; exact absurd h (by decide), by decide⟩

/-- Settings with a repeated one, and for each clause the list it speaks of. -/
theorem wit_BootReachesRun :
    configValid ex1 = true ∧
    (∀ i ∈ [Instr.setinv true, .setint 200, .autoen, .setinv false],
      (∃ b, i = .setinv b) ∨ i = .autoen ∨ ∃ n, i = .setint n) ∧
    ([Instr.setinv true, .setint 200, .autoen, .setinv false] =
      [.setinv true, .setint 200, .autoen] ++ .setinv false :: [] ∧ ∀ b', Instr.setinv b' ∉ []) ∧
    ([Instr.setinv true, .setint 200, .autoen, .setinv false] =
      [.setinv true] ++ .setint 200 :: [.autoen, .setinv false] ∧
      ∀ n', Instr.setint n' ∉ [.autoen, .setinv false]) ∧
    (∀ b, Instr.setinv b ∉ [.autoen]) ∧ ∀ n, Instr.setint n ∉ [.autoen] :=
  ⟨by decide, by simp, by simp, by simp, by simp, by simp⟩

theorem wit_UpdateCycleCompletes :
    running.phase = .run ∧ running.inPrint = false ∧ running.level = some 15 ∧
    ∀ p ∈ [((3 : BitVec 2), [(0x31 : Byte), 0x32]), (0, [0x3A, 0xFF])], ∀ c ∈ p.2, running.rom.accepts c := by decide

end Sys2Proof.Tests
end

section
/-! The family 00_scope.md: the alternatives of R6 that a policy selects (D7, D14) and the read of an unset print register
(R9, R237). First what PCHAR, PEND and ASTEP are in a state past their guard (R212), and what each does there. -/

namespace Sys2Proof.Machine

/-! ## The meanings past their guards -/

theorem exec_pchar_of_printing (s : State) (c : BitVec 8) (hphase : s.phase = .run) (hprint : s.inPrint = true) :
    exec (.pchar c) s = .next (s.printChar c) := by
  rw [exec_pchar, s.inPrinting_of _ hphase hprint]

theorem exec_pend_of_printing (s : State) (hphase : s.phase = .run) (hprint : s.inPrint = true) :
    exec .pend s = .next s.finishPrint := by
  rw [exec_pend, s.inPrinting_of _ hphase hprint]

theorem exec_astep_of_running (s : State) (hphase : s.phase = .run) (hprint : s.inPrint = false) :
    exec .astep s = .next (if s.autoEn then s.autoStep else s) := by
  rw [exec_astep, s.inRun_of _ hphase hprint]

/-! ## The alternatives of R6 -/

theorem State.printChar_of_rejectsCode (s : State) (c : Byte) (h : rejectsCode s.rom c) :
    s.printChar c = s.refuse .codeRejected := if_pos h

theorem State.autoStep_of_holdsLevel (s : State) (h : holdsLevel s) : s.autoStep = s := if_pos h

/-- The complement of the glyph range, as the statements write it. -/
theorem not_inGlyphRange_iff (c : Byte) : ¬ inGlyphRange c ↔ c.toNat < 0x20 ∨ 0x7E < c.toNat := by
  rw [inGlyphRange]
  omega

/-! ## Unset print registers -/

theorem State.processChar_of_unset_cursor (s : State) (c : Byte) (h : s.cursor = none) :
    s.processChar c = s.raiseFault .unwritten := by
  rw [State.processChar, h, State.reading_none]

/-- The colon reads `start` beside `cursor`; whichever is unset, the fault is the same. -/
theorem State.processChar_colon_of_unset_start (s : State) (h : s.start = none) :
    s.processChar colonChar = s.raiseFault .unwritten := by
  cases hc : s.cursor with
  | none => exact s.processChar_of_unset_cursor _ hc
  | some cursor => rw [State.processChar, hc, State.reading_some, if_pos rfl, h, State.reading_none]

theorem State.printChar_of_unset_stopped (s : State) (c : Byte) (hr : ¬ rejectsCode s.rom c) (h : s.stopped = none) :
    s.printChar c = s.raiseFault .unwritten := by
  rw [State.printChar, if_neg hr, h, State.reading_none]

theorem State.finishPrint_of_unset (s : State) (h : s.cursor = none ∨ s.start = none) :
    s.finishPrint = s.raiseFault .unwritten := by
  rcases s.finishPrint_cases with ⟨_, e⟩ | ⟨cursor, start, hc, hs, _⟩
  · exact e
  · simp [hc, hs] at h

/-! ## The statements -/

/-- Settles O17: past its guard PCHAR looks at the policy before anything else. -/
theorem rejectPolicyRefusesCode : Obligations.RejectPolicyRefusesCode := by
  intro c s hphase hprint hpolicy hrange
  rw [exec_pchar_of_printing s c hphase hprint,
    s.printChar_of_rejectsCode c ⟨hpolicy, (not_inGlyphRange_iff c).mpr hrange⟩]
  rfl

/-- Settles O24: with auto mode off ASTEP is inert (R196), and with it on the policy holds the level. -/
theorem holdPolicyKeepsLevel : Obligations.HoldPolicyKeepsLevel := by
  intro s hphase hprint hpolicy hsig
  rw [exec_astep_of_running s hphase hprint]
  cases s.autoEn with
  | false => rfl
  | true => rw [if_pos rfl, s.autoStep_of_holdsLevel ⟨hpolicy, hsig⟩]

/-- Settles O35, one case for each register that PCHAR or PEND reads. -/
theorem unsetPrintRegisterFaults : Obligations.UnsetPrintRegisterFaults := by
  constructor
  · intro c s hphase hprint haccepts hunset
    have hr : ¬ rejectsCode s.rom c := not_rejectsCode haccepts
    have hfault : s.printChar c = s.raiseFault .unwritten := by
      rcases hunset with hstopped | ⟨hgoing, hcursor | ⟨rfl, hstart⟩⟩
      · exact s.printChar_of_unset_stopped c hr hstopped
      · exact (s.printChar_of_going c hr hgoing).trans (s.processChar_of_unset_cursor c hcursor)
      · exact (s.printChar_of_going _ hr hgoing).trans (s.processChar_colon_of_unset_start hstart)
    rw [exec_pchar_of_printing s c hphase hprint, hfault]
    rfl
  · intro s hphase hprint hunset
    rw [exec_pend_of_printing s hphase hprint, s.finishPrint_of_unset hunset]
    rfl

end Sys2Proof.Machine
end

section
/-! The family 10_state.md: what every step keeps (R22, R25, R212), what a reset leaves (R40, R260), which command changes
which element (R20), the histories (R37), and the check and the load of a configuration (R27 to R29, R236). -/

namespace Sys2Proof.Machine

/-! ## What a step can do -/

/-- The inputs of R21, R260 and R268, one case each; a word that is no command is a case of its own (R73, R74). -/
theorem step_cases {s t : State} (h : step s = .next t) :
    (s.inbox = [] ∧ t = s) ∨
    (∃ c rest, s.inbox = .reset c :: rest ∧ t = s.restart c rest) ∨
    (∃ w sig rest i, s.inbox = .command w sig :: rest ∧ decode w = .ok i ∧ exec i (s.present rest sig) = .next t) ∨
    (∃ w sig rest e, s.inbox = .command w sig :: rest ∧ decode w = .error e ∧
      t = (s.present rest sig).refuse (refusalOfDecode e)) := by
  unfold step at h
  split at h
  case h_1 hin => exact .inl ⟨hin, next_inj h⟩
  case h_2 c rest hin => exact .inr (.inl ⟨c, rest, hin, next_inj h⟩)
  case h_3 w sig rest hin =>
    split at h
    case h_1 i hi => exact .inr (.inr (.inl ⟨w, sig, rest, i, hin, hi, h⟩))
    case h_2 e he => exact .inr (.inr (.inr ⟨w, sig, rest, e, hin, he, next_inj h⟩))

/-- A property that holds after a reset, that the port and the inbox do not touch, and that commands and refusals keep, is
kept by every step. -/
theorem step_keeps {P : State → Prop} (reset : ∀ s c rest, P (State.restart c rest s))
    (present : ∀ s rest sig, P s → P (State.present rest sig s)) (refuse : ∀ s r, P s → P (State.refuse r s))
    (command : ∀ i s t, exec i s = .next t → P s → P t) {s t : State} (h : step s = .next t) (hs : P s) : P t := by
  rcases step_cases h with ⟨_, rfl⟩ | ⟨c, rest, _, rfl⟩ | ⟨_, sig, rest, i, _, _, hexec⟩ | ⟨_, sig, rest, _, _, _, rfl⟩
  · exact hs
  · exact reset s c rest
  · exact command i _ t hexec (present s rest sig hs)
  · exact refuse _ _ (present s rest sig hs)

/-! ## The display invariant -/

/-- R22, R35, R150 and R212 together: what every step keeps of the display and the print registers. -/
structure DisplayInvariant (s : State) : Prop where
  narrow : CellsNarrow s
  range : PrintRange s
  config : ConfigNotPrinting s

/-- The invariant speaks of the cells, the print registers and the phase only, and phase RUN asks nothing. -/
theorem DisplayInvariant.of_frame {s t : State} (h : DisplayInvariant s) (cell : t.cell = s.cell := by simp)
    (phase : t.phase = .config → s.phase = .config := by simp) (inPrint : t.inPrint = s.inPrint := by simp)
    (start : t.start = s.start := by simp) (cursor : t.cursor = s.cursor := by simp)
    (stopped : t.stopped = s.stopped := by simp) : DisplayInvariant t where
  narrow := by simpa only [CellsNarrow, cell] using h.narrow
  range := by simpa only [PrintRange, inPrint, start, cursor, stopped] using h.range
  config hconfig := inPrint ▸ h.config (phase hconfig)

/-- Outside a print the registers are free (R35). -/
theorem DisplayInvariant.of_not_printing {s : State} (narrow : CellsNarrow s) (h : s.inPrint = false) :
    DisplayInvariant s where
  narrow := narrow
  range hprint := absurd (h.symm.trans hprint) (by decide)
  config _ := h

theorem cellsNarrow_of_blank {s : State} (h : s.cell = #v[0x00, 0x00, 0x00, 0x00]) : CellsNarrow s := by
  intro k
  rw [h]
  revert k
  decide

/-- A zero-extended pattern has bit 7 clear (R22, R123). -/
theorem State.glyphByte_bit7 (s : State) (c : Byte) : (s.glyphByte c).getLsbD 7 = false := by
  simp [State.glyphByte, zextPattern]

theorem cellsNarrow_of_set {s t : State} {i : Fin 4} {v : Byte} (h : CellsNarrow s) (hv : v.getLsbD 7 = false)
    (hcell : t.cell = s.cell.set i v) : CellsNarrow t := by
  intro k
  rw [hcell, Vector.getElem_set]
  split
  · exact hv
  · exact h k

theorem displayInvariant_boot (c : Config) : DisplayInvariant (State.boot c) :=
  .of_not_printing (cellsNarrow_of_blank rfl) rfl

/-- A print starts with its cursor at its start position, below 4 (R141). -/
theorem DisplayInvariant.beginPrint {s : State} (h : DisplayInvariant s) (p : BitVec 2) (hphase : s.phase = .run) :
    DisplayInvariant (s.beginPrint p) where
  narrow := h.narrow
  range _ := ⟨p, p.setWidth 3, false, rfl, rfl, rfl, by bv_omega, by bv_omega, by simp⟩
  config hconfig := absurd (hphase.symm.trans hconfig) (by decide)

/-- Inside a print a cursor comes with the start position it lies above (R150). -/
theorem PrintRange.exists_start {s : State} {cursor : BitVec 3} (h : PrintRange s) (hprint : s.inPrint = true)
    (hcursor : s.cursor = some cursor) :
    ∃ start, s.start = some start ∧ start.toNat ≤ cursor.toNat ∧ cursor.toNat ≤ 4 := by
  obtain ⟨start, cursor', _, hstart, hcursor', _, hle, hge, _⟩ := h hprint
  obtain rfl : cursor' = cursor := by simpa [hcursor] using hcursor'.symm
  exact ⟨start, hstart, hle, hge⟩

/-- The colon moves the cursor only off the start position, which is below 4 (R143). -/
theorem cursorRange_colon {start : BitVec 2} {cursor : BitVec 3} (hle : start.toNat ≤ cursor.toNat)
    (hge : cursor.toNat ≤ 4) :
    start.toNat ≤ (advanceCursor (borrowCell cursor start)).toNat ∧
      (advanceCursor (borrowCell cursor start)).toNat ≤ 4 := by
  rw [advance_borrowCell]
  split
  · next h =>
    have hcursor : cursor.toNat = start.toNat := by rw [h, startCursor]; bv_omega
    constructor <;> bv_omega
  · exact ⟨hle, hge⟩

/-- Advancing below 4 stays in range (R144). -/
theorem cursorRange_advance {start : BitVec 2} {cursor : BitVec 3} (hle : start.toNat ≤ cursor.toNat)
    (hlt : cursor.toNat < 4) :
    start.toNat ≤ (advanceCursor cursor).toNat ∧ (advanceCursor cursor).toNat ≤ 4 := by
  rw [advanceCursor]
  constructor <;> bv_omega

/-- Every command keeps the display invariant; only the cases of a print touch what it speaks of. -/
theorem exec_keeps_displayInvariant (i : Instr) (s t : State) (h : exec i s = .next t) (hs : DisplayInvariant s) :
    DisplayInvariant t := by
  apply exec_next_elim i h
  case refuse => intro r; exact hs.of_frame
  case fault => intro f _; exact hs.of_frame
  case same => exact hs
  case setup => intro _ _; exact hs.of_frame
  case setinv => intro b _ _; exact hs.of_frame
  case autoen => intro _ _; exact hs.of_frame
  case setint => intro n _ _; exact hs.of_frame
  case clear => intro _ _; exact ⟨cellsNarrow_of_blank rfl, hs.range, hs.config⟩
  case pbegin => intro p _ hphase; exact hs.beginPrint p hphase
  case colon =>
    intro cursor start _ hprint hcursor hstart hstopped
    obtain ⟨start', hstart', hle, hge⟩ := hs.range.exists_start hprint hcursor
    obtain rfl : start' = start := by simpa [hstart] using hstart'.symm
    obtain ⟨hle', hge'⟩ := cursorRange_colon hle hge
    exact ⟨by simpa [CellsNarrow] using hs.narrow,
      fun _ => ⟨_, _, false, by simpa using hstart, rfl, by simpa using hstopped, hle', hge', by simp⟩,
      by simpa [ConfigNotPrinting] using hs.config⟩
  case write =>
    intro c cursor _ hprint hcursor hstopped hlt
    obtain ⟨start, hstart, hle, _⟩ := hs.range.exists_start hprint hcursor
    obtain ⟨hle', hge'⟩ := cursorRange_advance hle hlt
    exact ⟨cellsNarrow_of_set (i := ⟨cursor.toNat, hlt⟩) hs.narrow (s.glyphByte_bit7 c) (by simp),
      fun _ => ⟨_, _, false, by simpa using hstart, rfl, by simpa using hstopped, hle', hge', by simp⟩,
      by simpa [ConfigNotPrinting] using hs.config⟩
  case overflow =>
    intro c cursor _ hprint hcursor hstopped hfull
    obtain ⟨start, hstart, hle, hge⟩ := hs.range.exists_start hprint hcursor
    exact ⟨by simpa [CellsNarrow] using hs.narrow,
      fun _ => ⟨_, _, true, by simpa using hstart, by simpa using hcursor, rfl, hle, hge, fun _ => by omega⟩,
      by simpa [ConfigNotPrinting] using hs.config⟩
  case pend => intro cursor start _ _ _; exact .of_not_printing hs.narrow rfl
  case render => intro level _ _; exact hs.of_frame
  case astep => intro _ _; exact hs.of_frame

/-- Settles O55: a reset blanks the display and ends the print, and every command keeps the invariant. -/
theorem stepKeepsDisplayInvariant : Obligations.StepKeepsDisplayInvariant := by
  intro s t hnarrow hrange hconfig h
  obtain ⟨narrow, range, config⟩ : DisplayInvariant t :=
    step_keeps (fun _ c _ => (displayInvariant_boot c).of_frame) (fun _ _ _ hs => hs.of_frame)
      (fun _ _ hs => hs.of_frame) exec_keeps_displayInvariant h ⟨hnarrow, hrange, hconfig⟩
  exact ⟨narrow, range, config⟩

/-! ## RENDER past its guard -/

theorem exec_render_of_running (s : State) (hphase : s.phase = .run) (hprint : s.inPrint = false) :
    exec .render s = .next s.sendFrame := by
  rw [exec_render, s.inRun_of _ hphase hprint]

theorem State.sendFrame_of_unset (s : State) (h : s.level = none) : s.sendFrame = s.raiseFault .levelUnset := by
  rw [State.sendFrame, h]

theorem State.sendFrame_of_level (s : State) {level : BitVec 4} (h : s.level = some level) :
    s.sendFrame = s.emitAll (frameRequests s level) := by
  rw [State.sendFrame, h]

/-! ## Histories and marks -/

/-- What no command reads: the four histories and the two marks (R37, R236, R237). -/
structure Past where
  reqs : List (Request × Bool)
  events : List Event
  counts : List Nat
  refusals : List Refusal
  refused : Bool
  faulted : Option Fault

/-- The histories and marks a state holds. -/
def State.past (s : State) : Past := ⟨s.reqs, s.events, s.counts, s.refusals, s.refused, s.faulted⟩

/-- The state with a past before its own: histories in front, a mark set where either sets it, the later fault reason. -/
def State.withPast (p : Past) (s : State) : State :=
  { s with
    reqs := p.reqs ++ s.reqs, events := p.events ++ s.events, counts := p.counts ++ s.counts
    refusals := p.refusals ++ s.refusals, refused := p.refused || s.refused, faulted := s.faulted.or p.faulted }

/-- The state with no past. -/
def State.forget (s : State) : State :=
  { s with reqs := [], events := [], counts := [], refusals := [], refused := false, faulted := none }

/-- A forgotten past put back: the state with these histories and marks. -/
theorem State.forget_withPast (s : State) (p : Past) : s.forget.withPast p = { s with
    reqs := p.reqs, events := p.events, refused := p.refused, faulted := p.faulted, counts := p.counts
    refusals := p.refusals } := by
  simp [State.withPast, State.forget]

theorem State.forget_withPast_past (s : State) : s.forget.withPast s.past = s := s.forget_withPast s.past

section
variable (p : Past) (s : State)

theorem State.refuse_withPast (r : Refusal) : (s.withPast p).refuse r = (s.refuse r).withPast p := by
  simp [State.refuse, State.withPast]

theorem State.raiseFault_withPast (f : Fault) : (s.withPast p).raiseFault f = (s.raiseFault f).withPast p := by
  simp [State.raiseFault, State.withPast]

theorem State.log_withPast (ev : Event) : (s.withPast p).log ev = (s.log ev).withPast p := by
  simp [State.log, State.withPast]

theorem State.endPrint_withPast (n : Nat) : (s.withPast p).endPrint n = (s.endPrint n).withPast p := by
  simp [State.endPrint, State.withPast]

theorem State.emit_withPast (r : Request) : (s.withPast p).emit r = (s.emit r).withPast p := by
  have hanswer : (s.withPast p).answerAt 0 = s.answerAt 0 := rfl
  rw [State.emit, State.emit, hanswer]
  split <;> simp [State.withPast]

theorem State.emitAll_withPast (rs : List Request) : (s.withPast p).emitAll rs = (s.emitAll rs).withPast p := by
  induction rs generalizing s with
  | nil => rfl
  | cons r rs ih => rw [State.emitAll_cons, State.emitAll_cons, State.emit_withPast, ih]

/-! The guards and reads look at the block only, so they commute with a past where what they guard does. -/

variable {f : State → State}

theorem State.guarded_withPast (legal : Prop) [Decidable legal] (r : Refusal)
    (hf : f (s.withPast p) = (f s).withPast p) :
    (if legal then f (s.withPast p) else (s.withPast p).refuse r) =
      (if legal then f s else s.refuse r).withPast p := by
  rw [apply_ite (State.withPast p), hf, State.refuse_withPast]

theorem State.inConfig_withPast (hf : f (s.withPast p) = (f s).withPast p) :
    (s.withPast p).inConfig f = (s.inConfig f).withPast p := s.guarded_withPast p _ _ hf

theorem State.outsidePrint_withPast (hf : f (s.withPast p) = (f s).withPast p) :
    (s.withPast p).outsidePrint f = (s.outsidePrint f).withPast p := by
  rw [State.outsidePrint, State.outsidePrint, apply_ite (State.withPast p), hf, State.refuse_withPast]
  rfl

theorem State.inRun_withPast (hf : f (s.withPast p) = (f s).withPast p) :
    (s.withPast p).inRun f = (s.inRun f).withPast p := s.guarded_withPast p _ _ hf

theorem State.inPrinting_withPast (hf : f (s.withPast p) = (f s).withPast p) :
    (s.withPast p).inPrinting f = (s.inPrinting f).withPast p := s.guarded_withPast p _ _ hf

theorem State.reading_withPast {α : Type} (element : Option α) {g h : α → State} (hg : ∀ v, g v = (h v).withPast p) :
    (s.withPast p).reading element g = (s.reading element h).withPast p := by
  cases element with
  | none => exact s.raiseFault_withPast p _
  | some v => exact hg v

/-! The meanings past their guards -/

theorem State.warnGlyph_withPast (c : Byte) : (s.withPast p).warnGlyph c = (s.warnGlyph c).withPast p := by
  rw [State.warnGlyph, State.warnGlyph, apply_ite (State.withPast p), State.log_withPast]
  rfl

theorem State.cellStep_withPast (c : Byte) (cursor : BitVec 3) :
    (s.withPast p).cellStep c cursor = (s.cellStep c cursor).withPast p := by
  rw [State.cellStep, State.cellStep, apply_dite (State.withPast p), State.log_withPast]
  rfl

theorem State.processChar_withPast (c : Byte) : (s.withPast p).processChar c = (s.processChar c).withPast p := by
  refine s.reading_withPast p _ fun cursor => ?_
  rw [apply_ite (State.withPast p), State.warnGlyph_withPast, State.cellStep_withPast]
  congr 1
  exact s.reading_withPast p _ fun start => rfl

theorem State.printChar_withPast (c : Byte) : (s.withPast p).printChar c = (s.printChar c).withPast p := by
  rw [State.printChar, State.printChar, apply_ite (State.withPast p), State.refuse_withPast]
  congr 1
  refine s.reading_withPast p _ fun stopped => ?_
  rw [apply_ite (State.withPast p), State.processChar_withPast]

theorem State.finishPrint_withPast : (s.withPast p).finishPrint = s.finishPrint.withPast p :=
  s.reading_withPast p _ fun _ => s.reading_withPast p _ fun _ => s.endPrint_withPast p _

theorem State.sendFrame_withPast : (s.withPast p).sendFrame = s.sendFrame.withPast p := by
  have hlevel : (s.withPast p).level = s.level := rfl
  cases h : s.level with
  | none => rw [s.sendFrame_of_unset h, (s.withPast p).sendFrame_of_unset (hlevel.trans h), State.raiseFault_withPast]
  | some level =>
    rw [s.sendFrame_of_level h, (s.withPast p).sendFrame_of_level (hlevel.trans h), State.emitAll_withPast]
    rfl

theorem State.logMismatch_withPast : (s.withPast p).logMismatch = s.logMismatch.withPast p := by
  rw [State.logMismatch, State.logMismatch, apply_ite (State.withPast p), State.log_withPast]
  rfl

theorem State.autoStep_withPast : (s.withPast p).autoStep = s.autoStep.withPast p := by
  rw [State.autoStep, State.autoStep, apply_ite (State.withPast p), State.logMismatch_withPast]
  rfl

theorem State.ifAuto_withPast :
    (if (s.withPast p).autoEn then (s.withPast p).autoStep else s.withPast p) =
      (if s.autoEn then s.autoStep else s).withPast p := by
  rw [apply_ite (State.withPast p), State.autoStep_withPast]
  rfl

/-- A command does to a state with a past what it does to the state, and leaves the past in front. -/
theorem exec_withPast (i : Instr) : ∃ t, exec i s = .next t ∧ exec i (s.withPast p) = .next (t.withPast p) := by
  cases i with
  | setup =>
    have hf := congrArg State.enterRun (s.emitAll_withPast p setupRequests)
    exact ⟨_, rfl, congrArg Host.Outcome.next (s.inConfig_withPast p hf)⟩
  | setinv b => exact ⟨_, rfl, congrArg Host.Outcome.next (s.inConfig_withPast p rfl)⟩
  | autoen => exact ⟨_, rfl, congrArg Host.Outcome.next (s.inConfig_withPast p rfl)⟩
  | setint n => exact ⟨_, rfl, congrArg Host.Outcome.next (s.outsidePrint_withPast p rfl)⟩
  | clear => exact ⟨_, rfl, congrArg Host.Outcome.next (s.inRun_withPast p rfl)⟩
  | pbegin q => exact ⟨_, rfl, congrArg Host.Outcome.next (s.inRun_withPast p rfl)⟩
  | pchar c => exact ⟨_, rfl, congrArg Host.Outcome.next (s.inPrinting_withPast p (s.printChar_withPast p c))⟩
  | pend => exact ⟨_, rfl, congrArg Host.Outcome.next (s.inPrinting_withPast p (s.finishPrint_withPast p))⟩
  | render => exact ⟨_, rfl, congrArg Host.Outcome.next (s.inRun_withPast p (s.sendFrame_withPast p))⟩
  | astep => exact ⟨_, rfl, congrArg Host.Outcome.next (s.inRun_withPast p (s.ifAuto_withPast p))⟩

end

/-- Every next state is one the command reaches from no past, with the past in front. -/
theorem exec_eq_withPast {i : Instr} {s t : State} (h : exec i s = .next t) : ∃ u : State, t = u.withPast s.past := by
  obtain ⟨u, _, hu⟩ := exec_withPast s.past s.forget i
  rw [s.forget_withPast_past, h] at hu
  exact ⟨u, next_inj hu.symm⟩

/-- Settles O53: both states are the one without histories and marks, each with a past of its own. -/
theorem historiesNeverSteer : Obligations.HistoriesNeverSteer := by
  intro i s reqs events refused faulted counts refusals
  obtain ⟨u, hu, hexec⟩ := exec_withPast s.past s.forget i
  obtain ⟨u', hu', hexec'⟩ := exec_withPast ⟨reqs, events, counts, refusals, refused, faulted⟩ s.forget i
  obtain rfl : u' = u := next_inj (hu.symm.trans hu')
  rw [s.forget_withPast_past] at hexec
  rw [s.forget_withPast] at hexec'
  exact ⟨_, _, hexec, hexec', rfl, u'.reqs, u'.events, u'.counts, u'.refusals, rfl, rfl, rfl, rfl, rfl, rfl, rfl, rfl⟩

/-- Settles O51: what a command leaves is its past with its own entries after it. -/
theorem historiesAreAppendOnly : Obligations.HistoriesAreAppendOnly := by
  intro i s t h
  obtain ⟨u, rfl⟩ := exec_eq_withPast h
  exact ⟨⟨u.reqs, rfl⟩, ⟨u.events, rfl⟩, ⟨u.counts, rfl⟩, ⟨u.refusals, rfl⟩⟩

/-! ## Which command changes which element -/

/-- Settles O48: the cases of a command's next state, each against the column "written by". -/
theorem onlyItsWritersChangeAnElement : Obligations.OnlyItsWritersChangeAnElement := by
  intro i s t h
  apply exec_next_elim i h
  case refuse => intro r; simp
  case fault => intro f hi; simpa using fun _ => hi
  case same => simp
  case setup => rintro rfl _; simp
  case setinv => rintro b rfl _; simp
  case autoen => rintro rfl _; simp
  case setint => rintro n rfl _; simp
  case clear => rintro rfl _; simp
  case pbegin => rintro p rfl _; simp
  case colon => rintro cursor start rfl _ _ _ _; simp [colonChar]
  case write => rintro c cursor rfl _ _ _ _; simp
  case overflow => rintro c cursor rfl _ _ _ _; simp
  case pend => rintro cursor start rfl _ _; simp
  case render => rintro level rfl _; simp
  case astep => rintro rfl _; simp

theorem exec_rom {i : Instr} {s t : State} (h : exec i s = .next t) : t.rom = s.rom :=
  (onlyItsWritersChangeAnElement i s t h).1

/-- Settles O49: SETUP enters phase RUN, and the commands that write the configuration are refused there. -/
theorem runPhaseIsForGood : Obligations.RunPhaseIsForGood := by
  intro i s t h hphase
  have hnot : s.phase ≠ .config := by simp [hphase]
  apply exec_next_elim i h
  case setup => exact fun _ hconfig => absurd hconfig hnot
  case setinv => exact fun _ _ hconfig => absurd hconfig hnot
  case autoen => exact fun _ hconfig => absurd hconfig hnot
  all_goals intros; simp [hphase]

/-! ## The check and the load of a configuration -/

theorem configValid_iff (c : Config) : configValid c = true ↔
    isBijection c.permN = true ∧ isBijection c.permI = true ∧ c.thr.length = c.lvlCfg.length ∧
      withinBound c.nMax c.thr.length = true ∧ thresholdsFinite c = true ∧ sentinelsHold c = true := by
  simp [configValid, permsBijective, lengthsAgree, and_assoc]

/-- The check of R27 says that every destination has exactly one source bit. -/
theorem isBijection_iff_existsUnique (perm : Vector (BitVec 3) 7) :
    isBijection perm = true ↔ ∀ k < 7, ∃! i : Fin 7, perm[i.val].toNat = k := by
  constructor
  · intro h k hk
    obtain ⟨i, hi⟩ := isBijection_surjective perm h k hk
    exact ⟨i, hi, fun j hj => ((isBijection_iff perm).mp h).2 j i (BitVec.eq_of_toNat_eq (hj.trans hi.symm))⟩
  · intro h
    choose source hsource hunique using fun k : Fin 7 => h k.val k.isLt
    have hinj : Function.Injective source := fun a b hab => Fin.ext (by rw [← hsource a, ← hsource b, hab])
    have hlt : ∀ i : Fin 7, perm[i.val].toNat < 7 := by
      intro i
      obtain ⟨k, rfl⟩ := Finite.surjective_of_injective hinj i
      exact (hsource k).trans_lt k.isLt
    refine (isBijection_iff perm).mpr ⟨hlt, fun i j hij => ?_⟩
    exact (h _ (hlt j)).unique (congrArg BitVec.toNat hij) rfl

theorem withinBound_iff (nMax : Option Nat) (n : Nat) : withinBound nMax n = true ↔ ∀ m, nMax = some m → n ≤ m := by
  cases nMax <;> simp [withinBound]

theorem isFinite_iff (t : Number) : isFinite t = true ↔ ∃ q, t = .fin q := by
  cases t <;> simp [isFinite]

theorem thresholdsFinite_iff (c : Config) : thresholdsFinite c = true ↔ ∀ t ∈ c.thr, ∃ q, t = .fin q := by
  simp only [thresholdsFinite, List.all_eq_true, isFinite_iff]

/-- R25 (1) on one word: U = 1 comes with P = 0x7F. -/
theorem sentinelWord_iff (word : Byte) :
    sentinelWord word = true ↔ (word.getLsbD 7 = true → word.toNat % 128 = 0x7F) := by
  have hpattern : patternBits word = sentinel ↔ word.toNat % 128 = 0x7F := by
    rw [← BitVec.toNat_inj]
    simp [patternBits, sentinel, BitVec.extractLsb'_toNat]
  rw [sentinelWord, Bool.or_eq_true, Bool.not_eq_true', beq_iff_eq, hpattern, unsupportedBit,
    ← Bool.not_eq_true, imp_iff_not_or]

theorem sentinelsHold_iff (c : Config) : sentinelsHold c = true ↔
    ∀ i : Fin 95, c.glyphRom.words[i.val].getLsbD 7 = true → c.glyphRom.words[i.val].toNat % 128 = 0x7F := by
  simp only [sentinelsHold, List.all_eq_true, ← sentinelWord_iff, Vector.mem_toList_iff]
  exact ⟨fun h i => h _ (by simp), fun h w hw => by
    obtain ⟨i, hi, rfl⟩ := Vector.getElem_of_mem hw
    exact h ⟨i, hi⟩⟩

/-- Settles O14, one lemma for each ground of the list. -/
theorem configCheckIsTheList : Obligations.ConfigCheckIsTheList := by
  intro c
  rw [configValid_iff, isBijection_iff_existsUnique, isBijection_iff_existsUnique, withinBound_iff,
    thresholdsFinite_iff, sentinelsHold_iff]

theorem clampLevel_toNat (l : Int) : ((clampLevel l).toNat : Int) = min 15 (max 0 l) := by
  rw [clampLevel, BitVec.toNat_ofNat]
  omega

/-- Settles O15: the load clamps each level (R29), and no command writes the ROMs. -/
theorem levelsClampedAtLoad : Obligations.LevelsClampedAtLoad := by
  refine ⟨fun c => ⟨List.length_map _, fun i l hl => ⟨clampLevel l, ?_, clampLevel_toNat l⟩⟩,
    fun i s t h => congrArg Rom.lvl (exec_rom h)⟩
  rw [show (State.boot c).rom.lvl = c.lvlCfg.map clampLevel from rfl, List.getElem?_map, hl]
  rfl

/-- A configuration that passes the check loads legal ROMs (R236). -/
theorem loadRom_legal {c : Config} (h : configValid c = true) : (loadRom c).legal := by
  obtain ⟨hpermN, hpermI, hlengths, _, _, hsentinels⟩ := (configValid_iff c).mp h
  exact ⟨hpermN, hpermI, by simpa [loadRom] using hlengths, hsentinels, loadRom_glyphConstraints c⟩

/-- The mark of a reset is the check's answer (R260). -/
theorem configValid_of_boot {c : Config} (h : (State.boot c).refused = false) : configValid c = true := by
  simpa [State.boot] using h

/-- The thresholds of a configuration that passes the check are loaded as they stand (R28). -/
theorem map_fin_loadThreshold {thr : List Number} (h : ∀ t ∈ thr, ∃ q, t = .fin q) :
    (thr.map loadThreshold).map Number.fin = thr := by
  rw [List.map_map]
  refine (List.map_congr_left fun t ht => ?_).trans (List.map_id thr)
  obtain ⟨q, rfl⟩ := h t ht
  rfl

/-! ## What every step keeps of the ROMs -/

/-- No command clears the refused mark (R236). -/
theorem not_refused_of_exec {i : Instr} {s t : State} (h : exec i s = .next t) (ht : t.refused = false) :
    s.refused = false := by
  obtain ⟨u, rfl⟩ := exec_eq_withPast h
  exact (Bool.or_eq_false_iff.mp ht).1

/-- Settles O57: a reset loads every glyph ROM with its fixed words and marks what is not legal, no command writes the
ROMs, and none clears the mark. -/
theorem stepKeepsLegalRoms : Obligations.StepKeepsLegalRoms := by
  intro s t h
  constructor
  · exact step_keeps (P := fun s => glyphConstraints s.rom.glyph = true) (fun _ c _ => loadRom_glyphConstraints c)
      (fun _ _ _ hs => hs) (fun _ _ hs => hs) (fun _ _ _ hexec hs => exec_rom hexec ▸ hs) h
  · exact step_keeps (P := fun s => s.refused = false → s.rom.legal)
      (fun _ _ _ hmark => loadRom_legal (configValid_of_boot hmark)) (fun _ _ _ hs => hs)
      (fun _ _ _ hmark => absurd hmark (by simp))
      (fun _ _ _ hexec hs hmark => exec_rom hexec ▸ hs (not_refused_of_exec hexec hmark)) h

/-! ## What a reset leaves -/

theorem step_of_reset {s : State} {c : Config} {rest : List Input} (h : s.inbox = .reset c :: rest) :
    step s = .next (s.restart c rest) := by
  rw [step, h]

theorem step_of_command {s : State} {w : Word} {sig : Signal} {rest : List Input} {i : Instr}
    (h : s.inbox = .command w sig :: rest) (hi : decode w = .ok i) : step s = exec i (s.present rest sig) := by
  rw [step, h]
  simp only [hi]

theorem State.boot_cell (c : Config) (k : Fin 4) : (State.boot c).cell[k.val] = 0x00 := by
  fin_cases k <;> rfl

/-- Settles O8: presenting a word takes it from the inbox and puts its SIG value on the port. -/
theorem stepRunsDecodedCommand : Obligations.StepRunsDecodedCommand :=
  fun _ _ _ _ _ h hi _ => step_of_command h hi

/-- Settles O11: the table's values are those of `State.boot`, and the check makes the thresholds finite and the mark 0. -/
theorem resetLeavesTableValues : Obligations.ResetLeavesTableValues := by
  intro s c rest h hvalid
  obtain ⟨_, _, _, _, hfinite, _⟩ := (configValid_iff c).mp hvalid
  have hthr : (State.boot c).rom.thr.map Number.fin = c.thr :=
    map_fin_loadThreshold ((thresholdsFinite_iff c).mp hfinite)
  exact ⟨s.restart c rest, step_of_reset h, State.boot_cell c, rfl, rfl, rfl, rfl, rfl, rfl, rfl, rfl, rfl,
    by simp [State.boot, hvalid], rfl, rfl, rfl, rfl, rfl, rfl, rfl, rfl, hthr, rfl⟩

/-- Settles O12: `State.reset` is the boot of the installed configuration, which differs from the OPEN one in the guard and
the two policies only. -/
theorem resetStateHoldsTableValues : Obligations.ResetStateHoldsTableValues :=
  ⟨rfl, rfl, rfl, rfl, rfl, rfl, rfl, rfl, rfl, rfl, rfl, rfl, rfl, rfl, rfl, rfl, rfl⟩

/-- Settles O56: the display is blank, every configuration has the fixed words, and the mark is the check's answer. -/
theorem resetMeetsInvariants : Obligations.ResetMeetsInvariants := by
  intro c
  obtain ⟨narrow, range, config⟩ := displayInvariant_boot c
  exact ⟨narrow, range, config, loadRom_glyphConstraints c, fun hmark => loadRom_legal (configValid_of_boot hmark)⟩

/-! ## RENDER -/

/-- Settles O41: the level is read before any request (R238). -/
theorem renderUnsetLevelFaults : Obligations.RenderUnsetLevelFaults := by
  intro s hphase hprint hlevel
  rw [exec_render_of_running s hphase hprint, s.sendFrame_of_unset hlevel]
  rfl

/-- A write answered 1 is the last one to its address; any other leaves what was (R37). -/
theorem lastWritten_emit_wr (s : State) (a b x : Byte) : lastWritten a (s.emit (.wr b x)).reqs =
    if (s.answerAt 0).ok = true ∧ b = a then some x else lastWritten a s.reqs := by
  rw [State.emit_reqs, lastWritten, List.foldl_append]
  cases (s.answerAt 0).ok <;> simp [lastWritten]

theorem lastWritten_emit_cmd (s : State) (a k : Byte) :
    lastWritten a (s.emit (.cmd k)).reqs = lastWritten a s.reqs := by
  rw [State.emit_reqs, lastWritten, List.foldl_append]
  rfl

theorem lastWritten_emit_rd (s : State) (a k : Byte) :
    lastWritten a (s.emit (.rd k)).reqs = lastWritten a s.reqs := by
  rw [State.emit_reqs, lastWritten, List.foldl_append]
  rfl

/-- What a frame leaves at an address: its four cell writes and its colon write decide, the last one first. -/
theorem lastWritten_frame (s : State) (level : BitVec 4) (a : Byte) :
    lastWritten a (s.emitAll (frameRequests s level)).reqs =
      if (s.answerAt 4).ok = true ∧ addrColon = a then some (colonByte s)
      else if (s.answerAt 3).ok = true ∧ addrCell[3] = a then some (cellsel s 3)
      else if (s.answerAt 2).ok = true ∧ addrCell[2] = a then some (cellsel s 2)
      else if (s.answerAt 1).ok = true ∧ addrCell[1] = a then some (cellsel s 1)
      else if (s.answerAt 0).ok = true ∧ addrCell[0] = a then some (cellsel s 0)
      else lastWritten a s.reqs := by
  simp only [frameRequests, cellRequest, State.emitAll_cons, State.emitAll_nil, lastWritten_emit_rd,
    lastWritten_emit_cmd, lastWritten_emit_wr, State.answerAt_emit]
  rfl

/-- Settles O43: the five addresses differ, so at each of them only the frame's own write decides. -/
theorem failedWriteKeepsOldByte : Obligations.FailedWriteKeepsOldByte := by
  intro s level hphase hprint hlevel
  refine ⟨_, exec_render_of_running s hphase hprint, ?_⟩
  rw [s.sendFrame_of_level hlevel]
  constructor
  · intro k
    rw [lastWritten_frame]
    fin_cases k <;> simp [addrCell, addrColon]
  · rw [lastWritten_frame]
    simp [addrCell, addrColon]

end Sys2Proof.Machine
end

section
/-! The family 20_memory.md: a command's requests and the answers they take (R56), and the read bytes, which the block
discards (R58). -/

namespace Sys2Proof.Machine

/-! ## One answer per request -/

/-- From s to t these requests were sent, each with the next answer, and the environment moved on by as many (R56). -/
structure Sends (rs : List Request) (s t : State) : Prop where
  reqs : t.reqs = s.reqs ++ rs.zip (s.oks rs.length) := by simp
  answers : t.answers = s.answers.drop rs.length := by simp
  draws : t.draws = s.draws + rs.length := by simp

/-- SETUP and RENDER send their lists; every other case of a command sends nothing. -/
theorem exec_sends {i : Instr} {s t : State} (h : exec i s = .next t) : ∃ rs, Sends rs s t := by
  apply exec_next_elim i h
  case setup => exact fun _ _ => ⟨setupRequests, {}⟩
  case render => exact fun level _ _ => ⟨frameRequests s level, {}⟩
  all_goals intros; exact ⟨[], {}⟩

/-! ## Answers with the same `ok` bits -/

/-- The second state is the first with other answers ready, of the same `ok` bits: only the read bytes differ (R58). -/
def SameOks (s s' : State) : Prop :=
  s' = { s with answers := s'.answers } ∧ s'.answers.map Answer.ok = s.answers.map Answer.ok

/-- The state with these answers ready. -/
def State.withAnswers (answers : List Answer) (s : State) : State := { s with answers := answers }

theorem SameOks.ite {legal : Prop} [Decidable legal] {x x' y y' : State} (hx : SameOks x x') (hy : SameOks y y') :
    SameOks (if legal then x else y) (if legal then x' else y') := by
  split
  · exact hx
  · exact hy

theorem SameOks.dite {legal : Prop} [Decidable legal] {x x' : legal → State} {y y' : ¬ legal → State}
    (hx : ∀ h, SameOks (x h) (x' h)) (hy : ∀ h, SameOks (y h) (y' h)) :
    SameOks (if h : legal then x h else y h) (if h : legal then x' h else y' h) := by
  split
  · exact hx _
  · exact hy _

/-- A request's history entry reads no more of its answer than the `ok` bit. -/
theorem State.answerAt_ok (s : State) (k : Nat) :
    (s.answerAt k).ok = ((s.answers.map Answer.ok)[k]?).getD (Config.freeAnswer (s.draws + k)).ok := by
  rw [List.getElem?_map, Option.getD_map, State.answerAt]

/-! In each lemma below the two states are s and s with other answers of the same `ok` bits. A guard or a read looks at the
block only, so both go the same way; an update that sends nothing commutes with the answers by computation. -/

section
variable {s : State} {a : List Answer} (h : a.map Answer.ok = s.answers.map Answer.ok)
include h

theorem State.emit_withAnswers (r : Request) : (s.withAnswers a).emit r = (s.emit r).withAnswers a.tail := by
  have hok : ((s.withAnswers a).answerAt 0).ok = (s.answerAt 0).ok := by
    rw [State.answerAt_ok, State.answerAt_ok, ← h]
    rfl
  rw [State.emit, State.emit, hok]
  rfl

theorem State.emitAll_withAnswers (rs : List Request) :
    (s.withAnswers a).emitAll rs = (s.emitAll rs).withAnswers (a.drop rs.length) := by
  induction rs generalizing s a with
  | nil => rfl
  | cons r rs ih =>
    have htail : a.tail.map Answer.ok = (s.emit r).answers.map Answer.ok := by simp [List.map_tail, h]
    rw [State.emitAll_cons, State.emitAll_cons, State.emit_withAnswers h, ih htail, List.drop_tail, List.length_cons]

theorem sameOks_emitAll (rs : List Request) : SameOks (s.emitAll rs) ((s.withAnswers a).emitAll rs) := by
  rw [State.emitAll_withAnswers h]
  exact ⟨rfl, by simp [State.withAnswers, List.map_drop, h]⟩

theorem sameOks_inConfig {f : State → State} (hf : SameOks (f s) (f (s.withAnswers a))) :
    SameOks (s.inConfig f) ((s.withAnswers a).inConfig f) := .ite hf ⟨rfl, h⟩

theorem sameOks_outsidePrint {f : State → State} (hf : SameOks (f s) (f (s.withAnswers a))) :
    SameOks (s.outsidePrint f) ((s.withAnswers a).outsidePrint f) := .ite ⟨rfl, h⟩ hf

theorem sameOks_inRun {f : State → State} (hf : SameOks (f s) (f (s.withAnswers a))) :
    SameOks (s.inRun f) ((s.withAnswers a).inRun f) := .ite hf ⟨rfl, h⟩

theorem sameOks_inPrinting {f : State → State} (hf : SameOks (f s) (f (s.withAnswers a))) :
    SameOks (s.inPrinting f) ((s.withAnswers a).inPrinting f) := .ite hf ⟨rfl, h⟩

theorem sameOks_reading {α : Type} (element : Option α) {f f' : α → State} (hf : ∀ v, SameOks (f v) (f' v)) :
    SameOks (s.reading element f) ((s.withAnswers a).reading element f') := by
  cases element with
  | none => exact ⟨rfl, h⟩
  | some v => exact hf v

theorem sameOks_processChar (c : Byte) : SameOks (s.processChar c) ((s.withAnswers a).processChar c) := by
  refine sameOks_reading h _ fun cursor => .ite (sameOks_reading h _ fun start => ?_) ?_
  · rw [State.warnGlyph_eq, State.warnGlyph_eq]
    exact ⟨rfl, h⟩
  · rw [State.warnGlyph_eq, State.warnGlyph_eq]
    exact .dite (fun _ => ⟨rfl, h⟩) fun _ => ⟨rfl, h⟩

theorem sameOks_printChar (c : Byte) : SameOks (s.printChar c) ((s.withAnswers a).printChar c) :=
  .ite ⟨rfl, h⟩ (sameOks_reading h _ fun _ => .ite ⟨rfl, h⟩ (sameOks_processChar h c))

theorem sameOks_finishPrint : SameOks s.finishPrint (s.withAnswers a).finishPrint :=
  sameOks_reading h _ fun _ => sameOks_reading h _ fun _ => ⟨rfl, h⟩

theorem sameOks_sendFrame : SameOks s.sendFrame (s.withAnswers a).sendFrame := by
  have hsame : (s.withAnswers a).level = s.level := rfl
  cases hlevel : s.level with
  | none =>
    rw [s.sendFrame_of_unset hlevel, State.sendFrame_of_unset _ (hsame.trans hlevel)]
    exact ⟨rfl, h⟩
  | some level =>
    rw [s.sendFrame_of_level hlevel, State.sendFrame_of_level _ (hsame.trans hlevel)]
    exact sameOks_emitAll h (frameRequests s level)

theorem sameOks_autoStep : SameOks s.autoStep (s.withAnswers a).autoStep := by
  refine .ite ⟨rfl, h⟩ ?_
  rw [State.logMismatch_eq, State.logMismatch_eq]
  exact ⟨rfl, h⟩

/-- A command leaves the two states alike but for the read bytes still to come (R58). -/
theorem exec_sameOks (i : Instr) :
    ∃ t t', exec i s = .next t ∧ exec i (s.withAnswers a) = .next t' ∧ SameOks t t' := by
  cases i with
  | setup =>
    obtain ⟨hrest, hoks⟩ := sameOks_emitAll h setupRequests
    exact ⟨_, _, rfl, rfl, sameOks_inConfig h ⟨congrArg State.enterRun hrest, hoks⟩⟩
  | setinv b => exact ⟨_, _, rfl, rfl, sameOks_inConfig h ⟨rfl, h⟩⟩
  | autoen => exact ⟨_, _, rfl, rfl, sameOks_inConfig h ⟨rfl, h⟩⟩
  | setint n => exact ⟨_, _, rfl, rfl, sameOks_outsidePrint h ⟨rfl, h⟩⟩
  | clear => exact ⟨_, _, rfl, rfl, sameOks_inRun h ⟨rfl, h⟩⟩
  | pbegin p => exact ⟨_, _, rfl, rfl, sameOks_inRun h ⟨rfl, h⟩⟩
  | pchar c => exact ⟨_, _, rfl, rfl, sameOks_inPrinting h (sameOks_printChar h c)⟩
  | pend => exact ⟨_, _, rfl, rfl, sameOks_inPrinting h (sameOks_finishPrint h)⟩
  | render => exact ⟨_, _, rfl, rfl, sameOks_inRun h (sameOks_sendFrame h)⟩
  | astep => exact ⟨_, _, rfl, rfl, sameOks_inRun h (.ite (sameOks_autoStep h) ⟨rfl, h⟩)⟩

end

/-- Settles O54: a command sends a list of requests, each with the next answer, and steps alike for answers of the same
`ok` bits. -/
theorem readBytesAreDiscarded : Obligations.ReadBytesAreDiscarded := by
  refine ⟨fun i s t h => ?_, fun i s answers hoks => exec_sameOks hoks i⟩
  obtain ⟨rs, hsends⟩ := exec_sends h
  have hlength : (rs.zip (s.oks rs.length)).length = rs.length := by simp
  refine ⟨rs.zip (s.oks rs.length), hsends.reqs, ?_, ?_, ?_⟩
  · rw [hlength, List.map_snd_zip (s.oks_length _).le, State.oks]
  · rw [hlength, hsends.answers]
  · rw [hlength, hsends.draws]

end Sys2Proof.Machine
end

section
/-! The family 30_encoding.md. First the decoder and the encoder (R70 to R75): the fields of a word, what the decoder can
answer, and which row of the map selects a word. -/

namespace Sys2Proof

/-! ## The fields of a word (R70) -/

@[simp] theorem opField_wordOf (op : BitVec 4) (arg : BitVec 12) : opField (wordOf op arg) = op :=
  BitVec.extractLsb'_append_eq_left

@[simp] theorem argField_wordOf (op : BitVec 4) (arg : BitVec 12) : argField (wordOf op arg) = arg :=
  BitVec.extractLsb'_append_eq_right

theorem opField_toNat (w : Word) : (opField w).toNat = w.toNat / 4096 := by
  rw [opField, BitVec.extractLsb'_toNat, Nat.shiftRight_eq_div_pow]
  omega

theorem argField_toNat (w : Word) : (argField w).toNat = w.toNat % 4096 := by
  rw [argField, BitVec.extractLsb'_toNat]
  rfl

theorem wordOf_toNat (op : BitVec 4) (arg : BitVec 12) : (wordOf op arg).toNat = op.toNat * 4096 + arg.toNat := by
  have hop := opField_toNat (wordOf op arg)
  have harg := argField_toNat (wordOf op arg)
  rw [opField_wordOf] at hop
  rw [argField_wordOf] at harg
  omega

theorem eq_encode_of_fields {w : Word} {i : Instr} (hop : (opField w).toNat = i.opcode.toNat)
    (harg : argField w = i.arg) : w = encode i := by
  apply BitVec.eq_of_toNat_eq
  rw [encode, wordOf_toNat, ← harg, ← hop, opField_toNat, argField_toNat]
  omega

/-! ## Operand fields (R72, R73) -/

section
variable {arg : BitVec 12} {k l : Nat}

/-- The bits from k on are zero exactly where the field holds a number below 2 ^ k. -/
theorem highBits_eq_zero_iff (hkl : k + l = 12) : arg.extractLsb' k l = 0 ↔ arg.toNat < 2 ^ k := by
  have hpow : 2 ^ k * 2 ^ l = 2 ^ 12 := by rw [← Nat.pow_add, hkl]
  have hlt : arg.toNat / 2 ^ k < 2 ^ l := Nat.div_lt_of_lt_mul (hpow ▸ arg.isLt)
  rw [← BitVec.toNat_inj, BitVec.extractLsb'_toNat, Nat.shiftRight_eq_div_pow, Nat.mod_eq_of_lt hlt]
  simp [Nat.div_eq_zero_iff]

/-- A field below 2 ^ k is the zero extension of its low k bits. -/
theorem setWidth_lowBits (h : arg.toNat < 2 ^ k) : (arg.extractLsb' 0 k).setWidth 12 = arg := by
  apply BitVec.eq_of_toNat_eq
  have := arg.isLt
  simp only [BitVec.toNat_setWidth, BitVec.extractLsb'_toNat, Nat.shiftRight_zero, Nat.mod_eq_of_lt h]
  omega

/-- One bit is the field of its truth value. -/
theorem setWidth_ofBool_lowBit (h : arg.toNat < 2 ^ 1) : (BitVec.ofBool (arg.getLsbD 0)).setWidth 12 = arg := by
  apply BitVec.eq_of_toNat_eq
  have hcases : arg.toNat = 0 ∨ arg.toNat = 1 := by omega
  rcases hcases with h | h <;> simp [BitVec.getLsbD, h]

end

@[simp] theorem Instr.arg_toNat (i : Instr) : i.arg.toNat = i.operand := by
  cases i with
  | setinv b => cases b <;> rfl
  | setint n => have := n.isLt; simp [Instr.arg, Instr.operand]; omega
  | pbegin p => have := p.isLt; simp [Instr.arg, Instr.operand]; omega
  | pchar c => have := c.isLt; simp [Instr.arg, Instr.operand]; omega
  | _ => rfl

/-- Every command's word lies in its own row and its operand fits its field, one case for each command. -/
theorem encoding_statement (i : Instr) : Laws.Encoding.Statement i :=
  match i with
  | .setup => Laws.Encoding.setup
  | .setinv b => Laws.Encoding.setinv b
  | .autoen => Laws.Encoding.autoen
  | .setint n => Laws.Encoding.setint n
  | .clear => Laws.Encoding.clear
  | .pbegin p => Laws.Encoding.pbegin p
  | .pchar c => Laws.Encoding.pchar c
  | .pend => Laws.Encoding.pend
  | .render => Laws.Encoding.render
  | .astep => Laws.Encoding.astep

theorem Instr.operand_lt (i : Instr) : i.operand < i.operandBound := of_decide_eq_true (encoding_statement i).1

theorem selects_encode (i : Instr) : selects (i.matchWord, i.maskWord) (encode i) = true := (encoding_statement i).2

/-- The opcodes of the map are 0x1 to 0xA (R71). -/
theorem Instr.opcode_range (i : Instr) : 0x1 ≤ i.opcode.toNat ∧ i.opcode.toNat ≤ 0xA := by
  cases i <;> simp [Instr.opcode]

/-! ## What the decoder answers (R71, R73, R74) -/

/-- A zero-extended operand has no bit outside its field, and the field is the operand. -/
theorem field_setWidth {k l : Nat} (hkl : k + l = 12) (v : BitVec k) :
    (v.setWidth 12).extractLsb' k l = 0#l ∧ (v.setWidth 12).extractLsb' 0 k = v := by
  have hpow : 2 ^ k ≤ 2 ^ 12 := Nat.pow_le_pow_right (by decide) (by omega)
  have hv : (v.setWidth 12).toNat = v.toNat := by
    rw [BitVec.toNat_setWidth, Nat.mod_eq_of_lt (v.isLt.trans_le hpow)]
  refine ⟨(highBits_eq_zero_iff hkl).mpr (hv ▸ v.isLt), BitVec.eq_of_toNat_eq ?_⟩
  rw [BitVec.extractLsb'_toNat, hv, Nat.shiftRight_zero, Nat.mod_eq_of_lt v.isLt]

theorem decode_encode (i : Instr) : decode (encode i) = .ok i := by
  cases i with
  | setinv b => cases b <;> rfl
  | setint n => simp [decode, encode, Instr.opcode, Instr.arg, field_setWidth (l := 4)]
  | pbegin p => simp [decode, encode, Instr.opcode, Instr.arg, field_setWidth (l := 10)]
  | pchar c => simp [decode, encode, Instr.opcode, Instr.arg, field_setWidth (l := 4)]
  | _ => rfl

/-- What an answer of the decoder says of the word: it is the command's own, or its opcode is in the range of the refusal. -/
def DecodeSpec (w : Word) : Except DecodeError Instr → Prop
  | .ok i => w = encode i
  | .error .reservedBits => 0x1 ≤ (opField w).toNat ∧ (opField w).toNat ≤ 0xA
  | .error .reservedOpcode => (opField w).toNat = 0x0 ∨ 0xB ≤ (opField w).toNat

/-- A row of the decoder: its command where the reserved bits are zero, else refused for them (R73). -/
theorem decodeSpec_row {w : Word} (i : Instr) {legal : Prop} [Decidable legal] (hop : (opField w).toNat = i.opcode.toNat)
    (harg : legal → argField w = i.arg) : DecodeSpec w (if legal then .ok i else .error .reservedBits) := by
  split
  · next h => exact eq_encode_of_fields hop (harg h)
  · rw [DecodeSpec, hop]
    exact i.opcode_range

/-- The decoder's rows, one case for each opcode, and the opcodes that have none (R74). -/
theorem decode_spec (w : Word) : DecodeSpec w (decode w) := by
  unfold decode
  extract_lets arg
  split
  case h_1 hop => exact decodeSpec_row .setup hop id
  case h_2 hop =>
    exact decodeSpec_row (.setinv _) hop fun h => (setWidth_ofBool_lowBit ((highBits_eq_zero_iff rfl).mp h)).symm
  case h_3 hop => exact decodeSpec_row .autoen hop id
  case h_4 hop => exact decodeSpec_row (.setint _) hop fun h => (setWidth_lowBits ((highBits_eq_zero_iff rfl).mp h)).symm
  case h_5 hop => exact decodeSpec_row .clear hop id
  case h_6 hop => exact decodeSpec_row (.pbegin _) hop fun h => (setWidth_lowBits ((highBits_eq_zero_iff rfl).mp h)).symm
  case h_7 hop => exact decodeSpec_row (.pchar _) hop fun h => (setWidth_lowBits ((highBits_eq_zero_iff rfl).mp h)).symm
  case h_8 hop => exact decodeSpec_row .pend hop id
  case h_9 hop => exact decodeSpec_row .render hop id
  case h_10 hop => exact decodeSpec_row .astep hop id
  case h_11 =>
    show (opField w).toNat = 0x0 ∨ 0xB ≤ (opField w).toNat
    grind

theorem decode_eq_ok_iff {w : Word} {i : Instr} : decode w = .ok i ↔ w = encode i := by
  constructor
  · intro h
    have := decode_spec w
    rwa [h] at this
  · rintro rfl
    exact decode_encode i

theorem opField_range_of_decode {w : Word} {i : Instr} (h : decode w = .ok i) :
    0x1 ≤ (opField w).toNat ∧ (opField w).toNat ≤ 0xA := by
  rw [decode_eq_ok_iff.mp h, encode, opField_wordOf]
  exact i.opcode_range

/-- A word outside the map's opcodes is refused for its opcode (R74). -/
theorem decode_reservedOpcode_iff {w : Word} :
    decode w = .error .reservedOpcode ↔ (opField w).toNat = 0x0 ∨ 0xB ≤ (opField w).toNat := by
  have hspec := decode_spec w
  constructor
  · intro h
    rwa [h] at hspec
  · intro hop
    cases h : decode w with
    | ok i => have := opField_range_of_decode h; omega
    | error e =>
      cases e with
      | reservedOpcode => rfl
      | reservedBits =>
        rw [h] at hspec
        obtain ⟨hlow, hhigh⟩ := hspec
        omega

/-! ## The rows of the map (R71) -/

theorem mem_opcodeRows_iff {row : Word × Word} : row ∈ opcodeRows ↔ ∃ i : Instr, (i.matchWord, i.maskWord) = row := by
  constructor
  · intro h
    simp only [opcodeRows, List.mem_cons, List.not_mem_nil, or_false] at h
    rcases h with rfl | rfl | rfl | rfl | rfl | rfl | rfl | rfl | rfl | rfl
    exacts [⟨.setup, rfl⟩, ⟨.setinv true, rfl⟩, ⟨.autoen, rfl⟩, ⟨.setint 0, rfl⟩, ⟨.clear, rfl⟩, ⟨.pbegin 0, rfl⟩,
      ⟨.pchar 0, rfl⟩, ⟨.pend, rfl⟩, ⟨.render, rfl⟩, ⟨.astep, rfl⟩]
  · rintro ⟨i, rfl⟩
    cases i <;> simp [opcodeRows, Instr.matchWord, Instr.maskWord]

/-- The match column is the opcode alone. -/
theorem Instr.matchWord_toNat (i : Instr) : i.matchWord.toNat = i.opcode.toNat * 2 ^ 12 := by
  cases i <;> simp [Instr.matchWord, Instr.opcode]

/-- The mask column covers the bits from the operand's width on. -/
theorem Instr.exists_operandWidth (i : Instr) :
    ∃ k ≤ 12, i.operandBound = 2 ^ k ∧ i.maskWord = BitVec.allOnes 16 <<< k := by
  cases i with
  | setinv b => exact ⟨1, by decide, rfl, rfl⟩
  | setint n => exact ⟨8, by decide, rfl, rfl⟩
  | pbegin p => exact ⟨2, by decide, rfl, rfl⟩
  | pchar c => exact ⟨8, by decide, rfl, rfl⟩
  | _ => exact ⟨0, by decide, rfl, rfl⟩

/-- Under a mask of all bits from k on, a word is an opcode alone exactly where its `arg` is below 2 ^ k. -/
theorem and_mask_eq_iff {w m : Word} {k op : Nat} (hk : k ≤ 12) (hm : m.toNat = op * 2 ^ 12) :
    w &&& BitVec.allOnes 16 <<< k = m ↔ (opField w).toNat = op ∧ (argField w).toNat < 2 ^ k := by
  obtain ⟨q, hq⟩ := Nat.pow_dvd_pow 2 hk
  have hpos : 0 < 2 ^ k := Nat.two_pow_pos k
  have hqpos : 0 < q := Nat.pos_of_mul_pos_left (hq ▸ Nat.two_pow_pos 12)
  have hle : w.toNat / 2 ^ k * 2 ^ k ≤ w.toNat := Nat.div_mul_le_self ..
  have hlow : (argField w).toNat < 2 ^ k ↔ w.toNat / 2 ^ k % q = 0 := by
    rw [argField_toNat, show 4096 = 2 ^ k * q from hq, ← Nat.mod_mul_right_div_self, Nat.div_eq_zero_iff_lt hpos]
  have hhigh : (opField w).toNat = w.toNat / 2 ^ k / q := by
    rw [opField_toNat, Nat.div_div_eq_div_mul, ← hq]
  rw [← BitVec.shiftLeft_ushiftRight, ← BitVec.toNat_inj, BitVec.toNat_shiftLeft, BitVec.toNat_ushiftRight,
    Nat.shiftRight_eq_div_pow, Nat.shiftLeft_eq, Nat.mod_eq_of_lt (hle.trans_lt w.isLt), hm, hq, hlow, hhigh,
    Nat.mul_comm (2 ^ k) q, ← Nat.mul_assoc, Nat.mul_left_inj hpos.ne']
  constructor
  · intro h
    simp [h, hqpos]
  · rintro ⟨hdiv, hmod⟩
    rw [← hdiv, Nat.div_mul_cancel (Nat.dvd_of_mod_eq_zero hmod)]

/-- A row selects the words of its opcode whose `arg` is an operand. -/
theorem selects_iff (i : Instr) (w : Word) : selects (i.matchWord, i.maskWord) w = true ↔
    (opField w).toNat = i.opcode.toNat ∧ (argField w).toNat < i.operandBound := by
  obtain ⟨k, hk, hbound, hmask⟩ := i.exists_operandWidth
  rw [selects, beq_iff_eq, hmask, hbound, and_mask_eq_iff hk i.matchWord_toNat]

/-- Every operand of a row is the operand of a command of that row. -/
theorem exists_command_of_arg (i : Instr) {arg : BitVec 12} (h : arg.toNat < i.operandBound) :
    ∃ j : Instr, j.opcode = i.opcode ∧ j.arg = arg ∧ (j.matchWord, j.maskWord) = (i.matchWord, i.maskWord) := by
  have hzero (h : arg.toNat < 1) : 0 = arg := BitVec.eq_of_toNat_eq (Nat.lt_one_iff.mp h).symm
  cases i with
  | setup => exact ⟨.setup, rfl, hzero h, rfl⟩
  | setinv b => exact ⟨.setinv (arg.getLsbD 0), rfl, setWidth_ofBool_lowBit h, rfl⟩
  | autoen => exact ⟨.autoen, rfl, hzero h, rfl⟩
  | setint n => exact ⟨.setint (arg.extractLsb' 0 8), rfl, setWidth_lowBits (k := 8) h, rfl⟩
  | clear => exact ⟨.clear, rfl, hzero h, rfl⟩
  | pbegin p => exact ⟨.pbegin (arg.extractLsb' 0 2), rfl, setWidth_lowBits (k := 2) h, rfl⟩
  | pchar c => exact ⟨.pchar (arg.extractLsb' 0 8), rfl, setWidth_lowBits (k := 8) h, rfl⟩
  | pend => exact ⟨.pend, rfl, hzero h, rfl⟩
  | render => exact ⟨.render, rfl, hzero h, rfl⟩
  | astep => exact ⟨.astep, rfl, hzero h, rfl⟩

/-- A word that a row selects decodes to a command of that row. -/
theorem decode_of_selects {w : Word} {row : Word × Word} (hrow : row ∈ opcodeRows) (h : selects row w = true) :
    ∃ i, decode w = .ok i ∧ (i.matchWord, i.maskWord) = row := by
  obtain ⟨i, rfl⟩ := mem_opcodeRows_iff.mp hrow
  obtain ⟨hop, harg⟩ := (selects_iff i w).mp h
  obtain ⟨j, hjop, hjarg, hjrow⟩ := exists_command_of_arg i harg
  exact ⟨j, decode_eq_ok_iff.mpr (eq_encode_of_fields (hjop ▸ hop) hjarg.symm), hjrow⟩

theorem selects_of_decode {w : Word} {i : Instr} (h : decode w = .ok i) :
    selects (i.matchWord, i.maskWord) w = true := decode_eq_ok_iff.mp h ▸ selects_encode i

/-- No row selects a word that is refused. -/
theorem selects_eq_false_of_error {w : Word} {e : DecodeError} (h : decode w = .error e) :
    ∀ row ∈ opcodeRows, selects row w = false := by
  intro row hrow
  by_contra hselects
  obtain ⟨i, hi, _⟩ := decode_of_selects hrow (by simpa using hselects)
  simp [h] at hi

/-- A word of a defined opcode that no row selects is refused for its reserved bits (R73). -/
theorem decode_reservedBits {w : Word} (hlow : 0x1 ≤ (opField w).toNat) (hhigh : (opField w).toNat ≤ 0xA)
    (hrows : ∀ row ∈ opcodeRows, selects row w = false) : decode w = .error .reservedBits := by
  cases h : decode w with
  | ok i =>
    have hselects := selects_of_decode h
    rw [hrows _ (mem_opcodeRows_iff.mpr ⟨i, rfl⟩)] at hselects
    cases hselects
  | error e =>
    cases e with
    | reservedBits => rfl
    | reservedOpcode =>
      have := decode_reservedOpcode_iff.mp h
      omega

/-! ## The statements on the encoding -/

/-- Settles O2, at every operand. -/
theorem decodeOfEncode : Obligations.DecodeOfEncode := fun i _ => decode_encode i

/-- Settles O3: the decoder answers a command for its own word only. -/
theorem encodeOfDecode : Obligations.EncodeOfDecode := fun _ _ h => (decode_eq_ok_iff.mp h).symm

/-- Settles O4: the rows of the map, then its reserved opcodes. -/
theorem maskAndMatchSelectTheCommand : Obligations.MaskAndMatchSelectTheCommand := by
  refine ⟨fun _ _ => selects_of_decode, fun _ _ => decode_of_selects, fun w hw => decode_reservedOpcode_iff.mpr ?_⟩
  rcases hw with hzero | hhigh
  · exact .inl ((and_mask_eq_iff (w := w) (m := 0) (k := 12) (op := 0) le_rfl rfl).mp hzero).1
  · rw [opField_toNat]
    omega

/-- Settles O5: the word is the command's own, its opcode a multiple of every field's size. -/
theorem operandsAreTheLowBits : Obligations.OperandsAreTheLowBits := by
  intro w i h
  obtain ⟨k, hk, hbound, _⟩ := i.exists_operandWidth
  obtain ⟨q, hq⟩ := Nat.pow_dvd_pow 2 hk
  rw [decode_eq_ok_iff.mp h, encode, wordOf_toNat, Instr.arg_toNat, show 4096 = i.operandBound * q from hbound ▸ hq,
    Nat.mul_left_comm, Nat.mul_add_mod, Nat.mod_eq_of_lt i.operand_lt]

/-- Settles O6, one case for each answer of the decoder. -/
theorem everyWordIsOneRowOrRefused : Obligations.EveryWordIsOneRowOrRefused := by
  intro w
  have hspec := decode_spec w
  cases h : decode w with
  | ok i =>
    refine .inl ⟨⟨i, rfl⟩, (i.matchWord, i.maskWord), ⟨mem_opcodeRows_iff.mpr ⟨i, rfl⟩, selects_of_decode h⟩, ?_⟩
    rintro row ⟨hrow, hselects⟩
    obtain ⟨j, hj, rfl⟩ := decode_of_selects hrow hselects
    cases h.symm.trans hj
    rfl
  | error e =>
    rw [h] at hspec
    cases e with
    | reservedBits => exact .inr (.inl ⟨rfl, hspec.1, hspec.2, selects_eq_false_of_error h⟩)
    | reservedOpcode => exact .inr (.inr ⟨rfl, hspec, selects_eq_false_of_error h⟩)

/-- Settles O1, by evaluation. -/
theorem specWordsDecode : Obligations.SpecWordsDecode := by
  unfold Obligations.SpecWordsDecode
  decide

end Sys2Proof
end

section
/-! The family 30_encoding.md, continued: the step at a reserved word (R73, R74), the lines of the assembler (R76 to R78)
and the device bytes (R53, R82). -/

namespace Sys2Proof.Machine

/-! ## Reserved words -/

theorem step_of_error {s : State} {w : Word} {sig : Signal} {rest : List Input} {e : DecodeError}
    (h : s.inbox = .command w sig :: rest) (he : decode w = .error e) :
    step s = .next ((s.present rest sig).refuse (refusalOfDecode e)) := by
  rw [step, h]
  simp only [he]

/-- Settles O9: a word outside the map's opcodes, then a word of a defined opcode that no row selects. -/
theorem stepRefusesReservedWord : Obligations.StepRefusesReservedWord :=
  fun _ _ _ _ h => ⟨fun hop => step_of_error h (decode_reservedOpcode_iff.mpr hop),
    fun hlow hhigh hrows => step_of_error h (decode_reservedBits hlow hhigh hrows)⟩

/-! ## Source lines -/

/-- A line assembles to its commands in its range, and is an error outside of it (R76). -/
theorem assembleLine_of_range {l : SourceLine} {inRange : Prop} [Decidable inRange] (h : l.wellFormed = true ↔ inRange) :
    assembleLine l = if inRange then .ok (expandLine l) else .error .outOfRange :=
  if_congr h rfl rfl

theorem PrintSpec.wellFormed_iff (p : PrintSpec) :
    p.wellFormed = true ↔ p.start ≤ 3 ∧ ∀ c ∈ p.text, c ≤ 255 := by
  simp [PrintSpec.wellFormed, Nat.lt_succ_iff]

/-- Settles O7: the range of each line, and for PRINT and UPDATE the expansion written out. -/
theorem sourceLinesExpand : Obligations.SourceLinesExpand := by
  refine ⟨fun l h => if_neg (by simp [h]), ⟨rfl, rfl, rfl, rfl, rfl, rfl⟩, ⟨rfl, rfl, fun b hb => if_neg ?_⟩,
    fun n => assembleLine_of_range ?_, fun s => assembleLine_of_range ?_, fun c => assembleLine_of_range ?_,
    fun s text => ?_, fun prints => ?_⟩
  · simpa [SourceLine.wellFormed] using hb
  · simp [SourceLine.wellFormed, Nat.lt_succ_iff]
  · simp [SourceLine.wellFormed, Nat.lt_succ_iff]
  · simp [SourceLine.wellFormed, Nat.lt_succ_iff]
  · rw [assembleLine_of_range (l := .print ⟨s, text⟩) (PrintSpec.wellFormed_iff _)]
    simp [expandLine, expandPrint, printOperands, Function.comp_def]
  · rw [assembleLine_of_range (l := .update prints) (inRange := ∀ p ∈ prints, p.start ≤ 3 ∧ ∀ c ∈ p.text, c ≤ 255)
      (by simp [SourceLine.wellFormed, PrintSpec.wellFormed_iff])]
    simp [expandLine, expandUpdate, printOperands, List.flatMap_def, Function.comp_def]

/-! ## Device bytes -/

/-- A request of the device list that neither sends nor reads a power-off byte (R53, R82). -/
def ListedRequest (r : Request) : Prop :=
  allowedRequest r ∧ r ≠ .cmd cmdDispOff ∧ r ≠ .cmd cmdOscOff ∧ r ≠ .rd cmdDispOff ∧ r ≠ .rd cmdOscOff

theorem setupRequests_listed : ∀ r ∈ setupRequests, ListedRequest r := by
  simp [setupRequests, ListedRequest, allowedRequest, cmdOscOn, cmdDispOn, cmdDispOff, cmdOscOff]

/-- The dimming byte lies in 0xE0..0xEF (R81). -/
theorem dimByte_range (level : BitVec 4) : 0xE0 ≤ (dimByte level).toNat ∧ (dimByte level).toNat ≤ 0xEF := by
  revert level
  decide

theorem frameRequests_listed (s : State) (level : BitVec 4) : ∀ r ∈ frameRequests s level, ListedRequest r := by
  obtain ⟨hlow, hhigh⟩ := dimByte_range level
  have hoff (b : Byte) (hb : b.toNat < 0xE0) : dimByte level ≠ b := by
    rintro rfl
    omega
  simp [frameRequests, cellRequest, ListedRequest, allowedRequest, addrCell, addrColon, hlow, hhigh,
    hoff cmdDispOff (by decide), hoff cmdOscOff (by decide)]

/-- SETUP and RENDER send listed requests; every other case of a command sends nothing. -/
theorem exec_sends_listed {i : Instr} {s t : State} (h : exec i s = .next t) :
    ∃ rs, Sends rs s t ∧ ∀ r ∈ rs, ListedRequest r := by
  apply exec_next_elim i h
  case setup => exact fun _ _ => ⟨setupRequests, {}, setupRequests_listed⟩
  case render => exact fun level _ _ => ⟨frameRequests s level, {}, frameRequests_listed s level⟩
  all_goals intros; exact ⟨[], {}, by simp⟩

/-- Settles O52: the entries are the requests sent, each with its answer. -/
theorem onlyListedDeviceBytes : Obligations.OnlyListedDeviceBytes := by
  intro i s t h
  obtain ⟨rs, hsends, hlisted⟩ := exec_sends_listed h
  exact ⟨_, hsends.reqs, fun e he => hlisted e.1 (List.of_mem_zip he).1⟩

end Sys2Proof.Machine
end

section
/-! The family 30_encoding.md, continued: what a PRINT of any text leaves (R77, R149), from which the source's examples
(R153), two prints that meet (R152) and the update cycle (R78) follow. -/

namespace Sys2Proof.Machine

/-! ## Commands in a row (R59) -/

theorem execAll_cons {i : Instr} {is : List Instr} {s t : State} (h : exec i s = .next t) :
    execAll (i :: is) s = execAll is t := by
  rw [execAll, h]

theorem execAll_append {is js : List Instr} {s t : State} (h : execAll is s = .next t) :
    execAll (is ++ js) s = execAll js t := by
  induction is generalizing s with
  | nil => rw [next_inj h, List.nil_append]
  | cons i is ih =>
    cases hexec : exec i s with
    | next u => rw [List.cons_append, execAll_cons hexec, ih (execAll_cons hexec ▸ h)]
    | fault f => rw [execAll, hexec] at h; cases h
    | refused r => rw [execAll, hexec] at h; cases h

/-! ## What a text asks of the cells -/

/-- What a text asks of the cells from the cursor on, in order: a colon at the start position skips one (R143 (b)), any
other character takes one (R144). -/
def cellsAsked (cursor start : Nat) : List Byte → List (Option Byte)
  | [] => []
  | c :: cs =>
    if c = colonChar then
      if cursor = start then none :: cellsAsked (cursor + 1) start cs else cellsAsked cursor start cs
    else some c :: cellsAsked (cursor + 1) start cs

/-- Past the start position each character but the colons takes a cell. -/
theorem cellsAsked_of_lt {cursor start : Nat} (h : start < cursor) (text : List Byte) :
    cellsAsked cursor start text = (text.filter (fun c => c != colonChar)).map some := by
  induction text generalizing cursor with
  | nil => rfl
  | cons c cs ih =>
    by_cases hc : c = colonChar
    · simp [cellsAsked, hc, h.ne', ih h]
    · simp [cellsAsked, hc, ih (h.trans (Nat.lt_succ_self _))]

/-- From the start position on a text asks for what the statements say (R149). -/
theorem cellsAsked_start (start : Nat) (text : List Byte) : cellsAsked start start text = askedCells text := by
  cases text with
  | nil => rfl
  | cons c cs =>
    by_cases hc : c = colonChar <;> simp [cellsAsked, askedCells, hc, cellsAsked_of_lt (Nat.lt_succ_self start)]

/-- The cells with these characters' bytes written from the cursor on, as far as there are cells. -/
def fillCells (glyph : Byte → Byte) : Vector Byte 4 → Nat → List (Option Byte) → Vector Byte 4
  | cell, _, [] => cell
  | cell, cursor, none :: asked => fillCells glyph cell (cursor + 1) asked
  | cell, cursor, some c :: asked => fillCells glyph (cell.setIfInBounds cursor (glyph c)) (cursor + 1) asked

/-- Which cell each character gets: the cells before the cursor, the skipped one and those not asked for stay. -/
theorem getElem_fillCells (glyph : Byte → Byte) (cell : Vector Byte 4) (cursor : Nat) (asked : List (Option Byte))
    (k : Nat) (hk : k < 4) : (fillCells glyph cell cursor asked)[k] =
      if k < cursor then cell[k] else (asked[k - cursor]?.join.map glyph).getD cell[k] := by
  induction asked generalizing cell cursor with
  | nil => simp [fillCells]
  | cons a asked ih =>
    have htail (h : cursor < k) : (a :: asked)[k - cursor]? = asked[k - (cursor + 1)]? := by
      rw [show k - cursor = k - (cursor + 1) + 1 by omega, List.getElem?_cons_succ]
    cases a with
    | none =>
      rw [fillCells, ih]
      rcases lt_trichotomy k cursor with h | rfl | h
      · simp [h, h.trans (Nat.lt_succ_self _)]
      · simp
      · simp [h.not_gt, Nat.not_lt.mpr h, htail h]
    | some c =>
      rw [fillCells, ih, Vector.getElem_setIfInBounds]
      rcases lt_trichotomy k cursor with h | rfl | h
      · simp [h, h.ne', h.trans (Nat.lt_succ_self _)]
      · simp
      · simp [h.not_gt, h.ne, Nat.not_lt.mpr h, htail h]

theorem fillCells_of_full (glyph : Byte → Byte) (cell : Vector Byte 4) {cursor : Nat} (h : 4 ≤ cursor)
    (asked : List (Option Byte)) : fillCells glyph cell cursor asked = cell := by
  ext k hk
  rw [getElem_fillCells, if_pos (hk.trans_le h)]

/-! ## The characters of a print -/

/-- A print that goes on, its cursor and start position as numbers (R150). -/
structure Going (s : State) (cursor : Nat) (start : BitVec 2) : Prop where
  phase : s.phase = .run
  inPrint : s.inPrint = true
  stopped : s.stopped = some false
  cursorAt : s.cursor = some (BitVec.ofNat 3 cursor)
  startAt : s.start = some start
  le : cursor ≤ 4

theorem exec_pchar_of_going {s : State} {cursor : Nat} {start : BitVec 2} (h : Going s cursor start) {c : Byte}
    (hc : s.rom.accepts c) : exec (.pchar c) s = .next (s.processChar c) := by
  rw [exec_pchar_of_printing s c h.phase h.inPrint, s.printChar_of_going c (not_rejectsCode hc) h.stopped]

/-- A stopped print ignores a text (R146). -/
theorem execAll_pchars_of_stopped {s : State} (hphase : s.phase = .run) (hprint : s.inPrint = true)
    (hstopped : s.stopped = some true) {text : List Byte} (hc : ∀ c ∈ text, s.rom.accepts c) :
    execAll (text.map Instr.pchar) s = .next s := by
  induction text with
  | nil => rfl
  | cons c cs ih =>
    obtain ⟨haccepts, hrest⟩ := List.forall_mem_cons.mp hc
    have hstep : exec (.pchar c) s = .next s := by
      rw [exec_pchar_of_printing s c hphase hprint, State.printChar, if_neg (not_rejectsCode haccepts), hstopped]
      rfl
    rw [List.map_cons, execAll_cons hstep, ih hrest]

/-- The state that processing a text from this cursor on leaves (R149). -/
def State.printed (cursor start : Nat) (text : List Byte) (s : State) : State :=
  { s with
    cell := fillCells s.glyphByte s.cell cursor (cellsAsked cursor start text)
    colon := s.colon || (processed cursor start text).contains colonChar
    cursor := some (BitVec.ofNat 3 (min 4 (cursor + (cellsAsked cursor start text).length)))
    stopped := some !(overflowing cursor start text).isEmpty
    events := s.events ++ (processed cursor start text).flatMap (warningOf s.rom) ++
      (overflowing cursor start text).map Event.bufferOverflow }

theorem printed_nil {s : State} {cursor : Nat} {start : BitVec 2} (h : Going s cursor start) (start' : Nat) :
    s.printed cursor start' [] = s := by
  ext1 <;> simp [State.printed, cellsAsked, fillCells, processed, overflowing, h.cursorAt, h.stopped, h.le]

theorem advanceCursor_ofNat (cursor : Nat) :
    advanceCursor (BitVec.ofNat 3 cursor) = BitVec.ofNat 3 (cursor + 1) := BitVec.ofNat_add_ofNat cursor 1

/-- The colon moves the cursor only where it is at the start position (R143). -/
theorem processChar_colon_of_going {s : State} {cursor : Nat} {start : BitVec 2} (h : Going s cursor start) :
    s.processChar colonChar = (s.warnGlyph colonChar).setColon.setCursor
      (BitVec.ofNat 3 (if cursor = start.toNat then cursor + 1 else cursor)) := by
  have hle := h.le
  have heq : BitVec.ofNat 3 cursor = startCursor start ↔ cursor = start.toNat := by
    rw [startCursor]
    constructor <;> intro <;> bv_omega
  rw [s.processChar_colon _ _ h.cursorAt h.startAt, advance_borrowCell, apply_ite (BitVec.ofNat 3),
    ← advanceCursor_ofNat, advanceCursor, if_congr heq rfl rfl]

theorem processChar_write_of_going {s : State} {cursor : Nat} {start : BitVec 2} (h : Going s cursor start) {c : Byte}
    (hc : c ≠ colonChar) (hlt : cursor < 4) :
    s.processChar c = ((s.warnGlyph c).writeCell ⟨cursor, hlt⟩ (s.glyphByte c)).setCursor
      (BitVec.ofNat 3 (cursor + 1)) := by
  have hn : (BitVec.ofNat 3 cursor).toNat = cursor := by bv_omega
  rw [s.processChar_write c _ h.cursorAt hc (hn.trans_lt hlt), advanceCursor_ofNat]
  simp only [hn]

/-! Processing the first character and then the rest is processing the text, one lemma for each branch of PCHAR. -/

theorem printed_colon (s : State) (cursor start : Nat) (next : BitVec 3) (cs : List Byte) :
    ((s.warnGlyph colonChar).setColon.setCursor next).printed (if cursor = start then cursor + 1 else cursor) start cs =
      s.printed cursor start (colonChar :: cs) := by
  rw [State.warnGlyph_eq]
  by_cases h : cursor = start
  · simp [State.setColon, State.setCursor, State.printed, State.glyphByte, cellsAsked, processed, overflowing, fillCells,
      h, Nat.add_assoc, Nat.add_comm 1]
  · simp [State.setColon, State.setCursor, State.printed, State.glyphByte, cellsAsked, processed, overflowing, h]

theorem printed_write (s : State) {cursor start : Nat} (next : BitVec 3) {c : Byte} (hc : c ≠ colonChar)
    (hlt : cursor < 4) (cs : List Byte) :
    (((s.warnGlyph c).writeCell ⟨cursor, hlt⟩ (s.glyphByte c)).setCursor next).printed (cursor + 1) start cs =
      s.printed cursor start (c :: cs) := by
  have hset (v : Byte) : s.cell.setIfInBounds cursor v = s.cell.set cursor v := by
    ext k hk
    rw [Vector.getElem_set, Vector.getElem_setIfInBounds]
  rw [State.warnGlyph_eq]
  simp [State.writeCell, State.setCursor, State.printed, State.glyphByte, cellsAsked, processed, overflowing, fillCells,
    hset, hc, hc.symm, hlt, Nat.add_assoc, Nat.add_comm 1]

theorem printed_overflow (s : State) {cursor start : Nat} {c : Byte} (hcursor : s.cursor = some 4)
    (hc : c ≠ colonChar) (hfull : cursor = 4) (cs : List Byte) :
    ((s.warnGlyph c).log (.bufferOverflow c)).stopPrint = s.printed cursor start (c :: cs) := by
  rw [State.warnGlyph_eq]
  simp [State.log, State.stopPrint, State.printed, cellsAsked, processed, overflowing, fillCells_of_full, hcursor,
    hc, hc.symm, hfull]

/-- A PRINT's characters leave what its text asks for, one case for each branch of PCHAR (R142 to R146). -/
theorem execAll_pchars {s : State} {cursor : Nat} {start : BitVec 2} {text : List Byte} (h : Going s cursor start)
    (hc : ∀ c ∈ text, s.rom.accepts c) :
    execAll (text.map Instr.pchar) s = .next (s.printed cursor start.toNat text) := by
  induction text generalizing s cursor with
  | nil => rw [printed_nil h, List.map_nil, execAll]
  | cons c cs ih =>
    obtain ⟨haccepts, hrest⟩ := List.forall_mem_cons.mp hc
    have hstep := exec_pchar_of_going h haccepts
    have ⟨hphase, hprint, hstopped, hcursor, hstart, hle⟩ := h
    rw [List.map_cons]
    by_cases hcolon : c = colonChar
    · subst hcolon
      rw [processChar_colon_of_going h] at hstep
      rw [execAll_cons hstep, ih ⟨by simpa, by simpa, by simpa, rfl, by simpa, ?_⟩ (by simpa using hrest),
        printed_colon]
      split <;> omega
    · by_cases hlt : cursor < 4
      · rw [processChar_write_of_going h hcolon hlt] at hstep
        rw [execAll_cons hstep, ih ⟨by simpa, by simpa, by simpa, rfl, by simpa, hlt⟩ (by simpa using hrest),
          printed_write]
        exact hcolon
      · obtain rfl : cursor = 4 := by omega
        rw [s.processChar_overflow c 4 hcursor hcolon (by decide)] at hstep
        rw [execAll_cons hstep, execAll_pchars_of_stopped (by simpa) (by simpa) rfl (by simpa using hrest),
          printed_overflow s hcursor hcolon rfl]

/-! ## PRINT as a whole -/

theorem exec_pbegin_of_running {s : State} (p : BitVec 2) (hphase : s.phase = .run) (hprint : s.inPrint = false) :
    exec (.pbegin p) s = .next (s.beginPrint p) := by
  rw [exec_pbegin, s.inRun_of _ hphase hprint]

theorem exec_clear_of_running {s : State} (hphase : s.phase = .run) (hprint : s.inPrint = false) :
    exec .clear s = .next s.clearBuffer := by
  rw [exec_clear, s.inRun_of _ hphase hprint]

/-- A print begins with its cursor at its start position (R141). -/
theorem going_beginPrint {s : State} (p : BitVec 2) (hphase : s.phase = .run) :
    Going (s.beginPrint p) p.toNat p where
  phase := hphase
  inPrint := rfl
  stopped := rfl
  cursorAt := congrArg some (BitVec.eq_of_toNat_eq (by simp))
  startAt := rfl
  le := by omega

/-- PEND returns how far the cursor has come from the start position (R147). -/
theorem exec_pend_of_cursor {s : State} {cursor : Nat} {start : BitVec 2} (hphase : s.phase = .run)
    (hprint : s.inPrint = true) (hcursor : s.cursor = some (BitVec.ofNat 3 cursor)) (hstart : s.start = some start)
    (hle : cursor ≤ 4) : exec .pend s = .next (s.endPrint (cursor - start.toNat)) := by
  rw [exec_pend_of_printing s hphase hprint, State.finishPrint, hcursor, hstart, State.reading_some,
    State.reading_some, printCount, BitVec.toNat_ofNat, Nat.mod_eq_of_lt (by omega)]

/-- The state a PRINT leaves (R77, R149). -/
def State.afterPrint (p : BitVec 2) (text : List Byte) (s : State) : State :=
  ((s.beginPrint p).printed p.toNat p.toNat text).endPrint (min (4 - p.toNat) (positionsAsked text))

/-- A PRINT runs to its end: PBEGIN, its characters, PEND. -/
theorem execAll_expandPrint {s : State} (p : BitVec 2) {text : List Byte} (hphase : s.phase = .run)
    (hprint : s.inPrint = false) (hc : ∀ c ∈ text, s.rom.accepts c) :
    execAll (expandPrint p text) s = .next (s.afterPrint p text) := by
  have hpend : exec .pend ((s.beginPrint p).printed p.toNat p.toNat text) = .next (s.afterPrint p text) := by
    rw [exec_pend_of_cursor (s := (s.beginPrint p).printed p.toNat p.toNat text) hphase rfl rfl rfl (by omega),
      cellsAsked_start, State.afterPrint, positionsAsked]
    congr 2
    omega
  rw [expandPrint, execAll_cons (exec_pbegin_of_running p hphase hprint),
    execAll_append (execAll_pchars (going_beginPrint p hphase) hc), execAll_cons hpend, execAll]

/-- Settles O45: the fields of the state that a PRINT leaves. -/
theorem printProcessesText : Obligations.PrintProcessesText := by
  intro s p text hphase hprint hc
  refine ⟨s.afterPrint p text, execAll_expandPrint p hphase hprint hc, fun k hk => ?_, fun k hk => ?_, rfl, rfl,
    ⟨_, rfl, ?_⟩, rfl, rfl, rfl, rfl, rfl, rfl, rfl, rfl, rfl, hphase⟩
  · exact (getElem_fillCells _ _ _ _ _ k.isLt).trans (if_pos hk)
  · refine (getElem_fillCells _ _ _ _ _ k.isLt).trans ((if_neg (Nat.not_lt.mpr hk)).trans ?_)
    rw [cellsAsked_start]
    rcases (askedCells text)[k.val - p.toNat]? with _ | _ | c <;> rfl
  · rw [cellsAsked_start, BitVec.toNat_ofNat, positionsAsked]
    omega

/-! ## The source's examples -/

/-- CLEAR and a PRINT of codes in the glyph range, which both policies take (R6). -/
theorem execAll_clear_print {s : State} (p : BitVec 2) {text : List Byte} (hphase : s.phase = .run)
    (hprint : s.inPrint = false) (hrange : ∀ c ∈ text, inGlyphRange c) :
    execAll (.clear :: expandPrint p text) s = .next (s.clearBuffer.afterPrint p text) := by
  rw [execAll_cons (exec_clear_of_running hphase hprint)]
  exact execAll_expandPrint p hphase hprint fun c hc => .inr (hrange c hc)

/-- Settles O46: what each text asks of four blank cells. -/
theorem sourcePrintExamples : Obligations.SourcePrintExamples := by
  rintro s _ _ _ _ hphase hprint rfl rfl rfl rfl
  refine ⟨⟨_, execAll_clear_print 0 hphase hprint (by decide), rfl, rfl, rfl⟩,
    ⟨_, execAll_clear_print 0 hphase hprint (by decide), rfl, rfl, rfl⟩,
    ⟨_, execAll_clear_print 0 hphase hprint (by decide), rfl, rfl, rfl⟩,
    ⟨_, execAll_clear_print 0 hphase hprint (by decide), rfl, ?_, rfl⟩⟩
  exact List.getLast?_concat ..

/-! ## Two prints that meet -/

/-- A text that asks for no more cells than there are does not overflow (R145). -/
theorem overflowing_eq_nil {cursor start : Nat} {text : List Byte}
    (h : cursor + (cellsAsked cursor start text).length ≤ 4) : overflowing cursor start text = [] := by
  induction text generalizing cursor with
  | nil => rfl
  | cons c cs ih =>
    by_cases hc : c = colonChar
    · by_cases hs : cursor = start
      · simp only [cellsAsked, overflowing, hc, hs, if_true, List.length_cons] at h ⊢
        exact ih (by omega)
      · simp only [cellsAsked, overflowing, hc, hs, if_true, if_false] at h ⊢
        exact ih h
    · simp only [cellsAsked, overflowing, hc, if_false, List.length_cons] at h ⊢
      rw [if_pos (by omega)]
      exact ih (by omega)

/-- Past the start position it does not matter where that was. -/
theorem start_irrelevant_of_lt {cursor start start' : Nat} (h : start < cursor) (h' : start' < cursor)
    (text : List Byte) : processed cursor start text = processed cursor start' text ∧
      overflowing cursor start text = overflowing cursor start' text := by
  induction text generalizing cursor with
  | nil => exact ⟨rfl, rfl⟩
  | cons c cs ih =>
    obtain ⟨hsame, hsame'⟩ := ih h h'
    obtain ⟨hnext, hnext'⟩ := ih (h.trans (Nat.lt_succ_self _)) (h'.trans (Nat.lt_succ_self _))
    simp only [processed, overflowing, h.ne', h'.ne', if_false, hsame, hsame', hnext, hnext', and_self]

/-- A text that does not begin with a colon prints alike from every start position up to the cursor. -/
theorem printed_start_irrelevant {s : State} {cursor start start' : Nat} (h : start ≤ cursor) (h' : start' ≤ cursor)
    {text : List Byte} (hhead : text.head? ≠ some colonChar) :
    s.printed cursor start text = s.printed cursor start' text := by
  cases text with
  | nil => rfl
  | cons c cs =>
    have hc : c ≠ colonChar := by simpa using hhead
    obtain ⟨hprocessed, hoverflowing⟩ :=
      start_irrelevant_of_lt (Nat.lt_succ_of_le h) (Nat.lt_succ_of_le h') cs
    simp only [State.printed, cellsAsked, processed, overflowing, hc, if_false, hprocessed, hoverflowing,
      cellsAsked_of_lt (Nat.lt_succ_of_le h), cellsAsked_of_lt (Nat.lt_succ_of_le h')]

/-- A text that fits leaves the print going on, at the position after its last. -/
theorem going_printed {s : State} {cursor : Nat} {start : BitVec 2} (h : Going s cursor start) {text : List Byte}
    (hfits : cursor + (cellsAsked cursor start.toNat text).length ≤ 4) :
    Going (s.printed cursor start.toNat text) (cursor + (cellsAsked cursor start.toNat text).length) start where
  phase := h.phase
  inPrint := h.inPrint
  stopped := by simp [State.printed, overflowing_eq_nil hfits]
  cursorAt := by simp [State.printed, Nat.min_eq_right hfits]
  startAt := h.startAt
  le := hfits

/-- Two texts, of which the first fits, are one text. -/
theorem printed_append {s : State} {cursor : Nat} {start : BitVec 2} (h : Going s cursor start) {a b : List Byte}
    (hc : ∀ c ∈ a ++ b, s.rom.accepts c) (hfits : cursor + (cellsAsked cursor start.toNat a).length ≤ 4) :
    s.printed cursor start.toNat (a ++ b) = (s.printed cursor start.toNat a).printed
      (cursor + (cellsAsked cursor start.toNat a).length) start.toNat b := by
  obtain ⟨ha, hb⟩ := List.forall_mem_append.mp hc
  have hwhole := execAll_pchars h hc
  rw [List.map_append, execAll_append (execAll_pchars h ha), execAll_pchars (going_printed h hfits) hb] at hwhole
  exact next_inj hwhole

theorem positionsAsked_append {a b : List Byte} (hb : b.head? ≠ some colonChar) :
    positionsAsked (a ++ b) = positionsAsked a + positionsAsked b := by
  rw [positionsAsked_eq, positionsAsked_eq, positionsAsked_eq, if_neg hb, List.filter_append, List.length_append]
  cases a with
  | nil => simp [hb]
  | cons c cs => simp [Nat.add_assoc]

/-- Settles O47: PEND and the second PBEGIN leave cells, colon and events, and the second text does not see its start. -/
theorem twoPrintsMeet : Obligations.TwoPrintsMeet := by
  intro s p q a b hphase hprint hc hmeet hb
  obtain ⟨ha, hb'⟩ := List.forall_mem_append.mp hc
  have hmeet' : p.toNat + (cellsAsked p.toNat p.toNat a).length = q.toNat := by
    rw [cellsAsked_start, hmeet, positionsAsked]
  have hone : (s.beginPrint p).printed p.toNat p.toNat (a ++ b) =
      ((s.beginPrint p).printed p.toNat p.toNat a).printed q.toNat q.toNat b := by
    rw [printed_append (going_beginPrint p hphase) hc (by omega), hmeet']
    exact printed_start_irrelevant (by omega) le_rfl hb
  refine ⟨(s.afterPrint p a).afterPrint q b, s.afterPrint p (a ++ b), min (4 - p.toNat) (positionsAsked a),
    min (4 - q.toNat) (positionsAsked b), ?_, execAll_expandPrint p hphase hprint hc, ?_, ?_, ?_, ?_, ?_⟩
  · rw [execAll_append (execAll_expandPrint p hphase hprint ha)]
    exact execAll_expandPrint q hphase rfl hb'
  · exact (congrArg State.cell hone).symm
  · exact (congrArg State.colon hone).symm
  · exact (congrArg State.events hone).symm
  · exact List.append_assoc ..
  · show s.counts ++ [_] = s.counts ++ [_]
    rw [positionsAsked_append hb]
    congr 2
    omega

/-! ## The update cycle -/

/-- What prints leave of the state before them: all but the buffer, the print registers, the events and the counts, of
which there are n more. -/
structure AfterPrints (n : Nat) (s t : State) : Prop where
  frame : t = { s with
    cell := t.cell, colon := t.colon, inPrint := t.inPrint, start := t.start, cursor := t.cursor
    stopped := t.stopped, events := t.events, counts := t.counts }
  inPrint : t.inPrint = false
  counts : t.counts.length = s.counts.length + n

theorem AfterPrints.trans {m n : Nat} {s t u : State} (h : AfterPrints m s t) (h' : AfterPrints n t u) :
    AfterPrints (m + n) s u where
  frame := by
    rw [h'.frame, h.frame]
  inPrint := h'.inPrint
  counts := by rw [h'.counts, h.counts, Nat.add_assoc]

theorem afterPrints_clearBuffer {s : State} (hprint : s.inPrint = false) : AfterPrints 0 s s.clearBuffer :=
  ⟨rfl, hprint, rfl⟩

theorem afterPrints_afterPrint (s : State) (p : BitVec 2) (text : List Byte) :
    AfterPrints 1 s (s.afterPrint p text) :=
  ⟨rfl, rfl, by simp [State.afterPrint, State.printed, State.beginPrint]⟩

/-- Any prints of any texts run to their end (R77, R78). -/
theorem execAll_prints {s : State} {prints : List (BitVec 2 × List Byte)} (hphase : s.phase = .run)
    (hprint : s.inPrint = false) (hc : ∀ p ∈ prints, ∀ c ∈ p.2, s.rom.accepts c) :
    ∃ t, execAll (prints.flatMap fun p => expandPrint p.1 p.2) s = .next t ∧ AfterPrints prints.length s t := by
  induction prints generalizing s with
  | nil => exact ⟨s, rfl, rfl, hprint, rfl⟩
  | cons p prints ih =>
    obtain ⟨hp, hrest⟩ := List.forall_mem_cons.mp hc
    obtain ⟨t, hexec, ht⟩ := ih (s := s.afterPrint p.1 p.2) hphase rfl hrest
    refine ⟨t, ?_, ?_⟩
    · rw [List.flatMap_cons, execAll_append (execAll_expandPrint p.1 hphase hprint hp), hexec]
    · rw [List.length_cons, Nat.add_comm]
      exact (afterPrints_afterPrint s p.1 p.2).trans ht

/-- CLEAR and the prints of an update cycle run to their end (R78). -/
theorem execAll_clear_prints {s : State} {prints : List (BitVec 2 × List Byte)} (hphase : s.phase = .run)
    (hprint : s.inPrint = false) (hc : ∀ p ∈ prints, ∀ c ∈ p.2, s.rom.accepts c) :
    ∃ t, execAll (.clear :: prints.flatMap fun p => expandPrint p.1 p.2) s = .next t ∧
      AfterPrints prints.length s t := by
  obtain ⟨t, hexec, ht⟩ := execAll_prints (s := s.clearBuffer) hphase hprint hc
  refine ⟨t, (execAll_cons (exec_clear_of_running hphase hprint)).trans hexec, ?_⟩
  exact Nat.zero_add prints.length ▸ (afterPrints_clearBuffer hprint).trans ht

/-- ASTEP writes the level and the events only, and unsets no level (R192, R193). -/
theorem exec_astep_frame {s : State} (hphase : s.phase = .run) (hprint : s.inPrint = false) :
    ∃ t, exec .astep s = .next t ∧ t = { s with level := t.level, events := t.events } ∧
      (s.level ≠ none → t.level ≠ none) := by
  refine ⟨_, exec_astep_of_running s hphase hprint, ?_⟩
  split
  · rcases s.autoStep_cases with ⟨_, e⟩ | ⟨_, e⟩
    · rw [e]
      exact ⟨rfl, id⟩
    · rw [e, State.logMismatch_eq]
      exact ⟨rfl, fun _ => by simp⟩
  · exact ⟨rfl, id⟩

/-- Settles O60: CLEAR and the prints keep the level, so RENDER sends its seven requests. -/
theorem updateCycleCompletes : Obligations.UpdateCycleCompletes := by
  intro prints s level hphase hprint hc hlevel
  obtain ⟨t, hprints, hframe, htprint, hcounts⟩ := execAll_clear_prints hphase hprint hc
  have htphase : t.phase = .run := (congrArg State.phase hframe).trans hphase
  have htlevel : t.level = some level := (congrArg State.level hframe).trans hlevel
  have hrender := exec_render_of_running t htphase htprint
  rw [t.sendFrame_of_level htlevel] at hrender
  obtain ⟨u, hastep, hu, hulevel⟩ := exec_astep_frame (s := t.emitAll (frameRequests t level)) (by simpa) (by simpa)
  refine ⟨u, ?_, ?_, ?_, hulevel (by simp [htlevel]), ?_, ?_, ?_, ?_⟩
  · rw [expandUpdate, ← List.cons_append, execAll_append hprints, execAll_cons hrender, execAll_cons hastep, execAll]
  · rw [hu]
    simpa
  · rw [hu]
    simpa
  · rw [hu]
    simpa using congrArg State.refused hframe
  · rw [hu]
    simpa using congrArg State.faulted hframe
  · rw [hu]
    simpa using hcounts
  · rw [hu, show s.reqs = t.reqs from (congrArg State.reqs hframe).symm]
    simp [frameRequests]

end Sys2Proof.Machine
end

section
/-! The family 40_glyph_encoder.md: the encoder reads the ROM word of a code or gives the sentinel (R100, R102), and its
laws (R104) with the fixed words of the glyph ROM (R25). -/

namespace Sys2Proof.Machine

/-! ## The word of a code -/

theorem patternBits_toNat (word : Byte) : (patternBits word).toNat = word.toNat % 128 := by
  simp [patternBits, BitVec.extractLsb'_toNat]

theorem encodeGlyph_of_out_of_range (rom : Rom) (c : Byte) (h : c.toNat < 0x20 ∨ 0x7E < c.toNat) :
    encodeGlyph rom c = (true, 0x7F) :=
  encodeGlyph_of_not_mem rom c ((not_inGlyphRange_iff c).mpr h)

/-- Settles O36: U is bit 7 of the word and P its low seven bits (R24), and no word is read out of range. -/
theorem encodeReadsRomWord : Obligations.EncodeReadsRomWord := by
  refine ⟨fun rom c hlow hhigh => ?_, encodeGlyph_of_out_of_range⟩
  rw [encodeGlyph_of_mem rom c ⟨hlow, hhigh⟩]
  exact ⟨rfl, patternBits_toNat _⟩

/-! ## The laws of the encoder (R104) -/

/-- The encoder reads nothing of the ROMs but the glyph ROM. -/
theorem encodeGlyph_congr {rom rom' : Rom} (h : rom.glyph = rom'.glyph) (c : Byte) :
    encodeGlyph rom c = encodeGlyph rom' c := by
  by_cases hc : inGlyphRange c
  · simp only [encodeGlyph_of_mem _ c hc, h]
  · rw [encodeGlyph_of_not_mem rom c hc, encodeGlyph_of_not_mem rom' c hc]

/-- R25 (1) as the encoder shows it: in range the ROM word obeys it, and out of range the result is the sentinel anyway. -/
theorem encodeGlyph_eq_sentinel_of_unsupported {rom : Rom} (hrom : rom.glyph.toList.all sentinelWord = true) {c : Byte}
    (hu : (encodeGlyph rom c).1 = true) : encodeGlyph rom c = (true, 0x7F) := by
  by_cases hc : inGlyphRange c
  · rw [encodeGlyph_of_mem rom c hc] at hu ⊢
    refine Prod.ext hu (BitVec.eq_of_toNat_eq ?_)
    rw [patternBits_toNat]
    exact (sentinelWord_iff _).mp
      (List.all_eq_true.mp hrom _ (Vector.mem_toList_iff.mpr (Vector.getElem_mem _))) hu
  · exact encodeGlyph_of_not_mem rom c hc

/-- Settles O37: no command writes the ROMs, and on legal ROMs U = 1 comes with the sentinel, so the words that R25 fixes
as unsupported are the sentinel. -/
theorem encoderLaws : Obligations.EncoderLaws := by
  refine ⟨fun _ _ => encodeGlyph_congr, fun i s t h c => by rw [exec_rom h], fun rom hlegal => ?_,
    fun c => loadRom_legal, fun c x hx => ?_⟩
  · obtain ⟨_, _, _, hsentinels, hfixed⟩ := hlegal
    obtain ⟨hhash, hdollar, _⟩ := encodeGlyph_unsupported_of_constraints rom hfixed
    exact ⟨fun c hu => congrArg Prod.snd (encodeGlyph_eq_sentinel_of_unsupported hsentinels hu),
      encodeGlyph_of_out_of_range rom, encodeGlyph_eq_sentinel_of_unsupported hsentinels hhash,
      encodeGlyph_eq_sentinel_of_unsupported hsentinels hdollar⟩
  · obtain ⟨_, _, h1, h2, h3, h4⟩ := encodeGlyph_unsupported_of_constraints (loadRom c) (loadRom_glyphConstraints c)
    simp only [List.mem_cons, List.not_mem_nil, or_false] at hx
    rcases hx with rfl | rfl | rfl | rfl
    exacts [h1, h2, h3, h4]

end Sys2Proof.Machine
end

section
/-! The family 41_remapper.md: the bit permutation is a bijection of patterns with its inverse and laws (R120, R122), and
the cell-order mux (R124). A pattern is known by its bits at the destinations of a table, so each law of the permutation is
an equation of the bits that `permute_getLsbD` gives. -/

namespace Sys2Proof.Machine

/-! ## Patterns by their destination bits -/

/-- The destinations of a table without shared ones are all the bits (R27). -/
theorem pattern_eq_of_destinationBits {perm : Vector (BitVec 3) 7} (h : isBijection perm = true) {p q : Pattern}
    (hbits : ∀ i : Fin 7, p.getLsbD perm[i.val].toNat = q.getLsbD perm[i.val].toNat) : p = q := by
  refine BitVec.eq_of_getLsbD_eq fun k hk => ?_
  obtain ⟨i, hi⟩ := isBijection_surjective perm h k hk
  rw [← hi]
  exact hbits i

/-- The image of p is the pattern whose destination bits are p's source bits (R120). -/
theorem permute_eq_of_bits {perm : Vector (BitVec 3) 7} (h : isBijection perm = true) {p q : Pattern}
    (hbits : ∀ i : Fin 7, q.getLsbD perm[i.val].toNat = p.getLsbD i.val) : permute perm p = q :=
  pattern_eq_of_destinationBits h fun i => (permute_getLsbD perm h p i).trans (hbits i).symm

/-! ## The round trips (R122) -/

theorem unpermute_permute {perm : Vector (BitVec 3) 7} (h : isBijection perm = true) (p : Pattern) :
    unpermute perm (permute perm p) = p := by
  refine BitVec.eq_of_getLsbD_eq fun k hk => ?_
  rw [unpermute_getLsbD perm _ ⟨k, hk⟩, permute_getLsbD perm h p ⟨k, hk⟩]

theorem permute_unpermute {perm : Vector (BitVec 3) 7} (h : isBijection perm = true) (q : Pattern) :
    permute perm (unpermute perm q) = q :=
  permute_eq_of_bits h fun i => (unpermute_getLsbD perm q i).symm

/-! ## The derived laws (R122) -/

theorem permute_blank {perm : Vector (BitVec 3) 7} (h : isBijection perm = true) : permute perm 0x00 = 0x00 :=
  permute_eq_of_bits h fun i => by simp

/-- Every bit of the sentinel is set, wherever it comes from. -/
theorem permute_sentinel {perm : Vector (BitVec 3) 7} (h : isBijection perm = true) : permute perm 0x7F = 0x7F := by
  have hset : ∀ k < 7, (0x7F : Pattern).getLsbD k = true := by decide
  exact permute_eq_of_bits h fun i => by rw [hset _ (((isBijection_iff perm).mp h).1 i), hset _ i.isLt]

theorem permute_or {perm : Vector (BitVec 3) 7} (h : isBijection perm = true) (p q : Pattern) :
    permute perm (p ||| q) = permute perm p ||| permute perm q :=
  permute_eq_of_bits h fun i => by simp only [BitVec.getLsbD_or, permute_getLsbD perm h]

theorem permute_and {perm : Vector (BitVec 3) 7} (h : isBijection perm = true) (p q : Pattern) :
    permute perm (p &&& q) = permute perm p &&& permute perm q :=
  permute_eq_of_bits h fun i => by simp only [BitVec.getLsbD_and, permute_getLsbD perm h]

theorem singleBit_getLsbD {d : Nat} (hd : d < 7) (k : Nat) : (1#7 <<< d).getLsbD k = decide (d = k) := by
  rw [← BitVec.twoPow_eq, BitVec.getLsbD_twoPow]
  simp [hd]

/-- A single bit goes to its destination: source bits are equal exactly when their destinations are (R27). -/
theorem permute_singleBit {perm : Vector (BitVec 3) 7} (h : isBijection perm = true) (i : Fin 7) :
    permute perm (1#7 <<< i.val) = 1#7 <<< perm[i.val].toNat := by
  obtain ⟨hlt, hinj⟩ := (isBijection_iff perm).mp h
  refine permute_eq_of_bits h fun j => ?_
  rw [singleBit_getLsbD (hlt i), singleBit_getLsbD i.isLt, decide_eq_decide]
  exact ⟨fun e => congrArg Fin.val (hinj i j (BitVec.eq_of_toNat_eq e)), fun e => by rw [Fin.ext e]⟩

/-- The destinations in the order of the source bits are a rearrangement of 0 to 6 (R27). -/
theorem destinations_perm_range {perm : Vector (BitVec 3) 7} (h : isBijection perm = true) :
    ((List.finRange 7).map fun i => perm[i.val].toNat).Perm (List.range 7) := by
  obtain ⟨hlt, hinj⟩ := (isBijection_iff perm).mp h
  have hnodup : ((List.finRange 7).map fun i => perm[i.val].toNat).Nodup :=
    (List.nodup_finRange 7).map fun i j e => hinj i j (BitVec.eq_of_toNat_eq e)
  refine (List.perm_ext_iff_of_nodup hnodup List.nodup_range).mpr fun k => ?_
  rw [List.mem_range, List.mem_map]
  constructor
  · rintro ⟨i, _, rfl⟩
    exact hlt i
  · intro hk
    obtain ⟨i, hi⟩ := isBijection_surjective perm h k hk
    exact ⟨i, List.mem_finRange i, hi⟩

/-- The population count, taken over the destinations and then over the source bits that stand there. -/
theorem permute_popcount {perm : Vector (BitVec 3) 7} (h : isBijection perm = true) (p : Pattern) :
    ((List.range 7).filter (permute perm p).getLsbD).length = ((List.range 7).filter p.getLsbD).length := by
  rw [← List.countP_eq_length_filter, ← List.countP_eq_length_filter]
  calc (List.range 7).countP (permute perm p).getLsbD
      = ((List.finRange 7).map fun i => perm[i.val].toNat).countP (permute perm p).getLsbD :=
        ((destinations_perm_range h).countP_eq _).symm
    _ = (List.finRange 7).countP fun i => (permute perm p).getLsbD perm[i.val].toNat := List.countP_map
    _ = (List.finRange 7).countP fun i => p.getLsbD i.val := by simp only [permute_getLsbD perm h]
    _ = ((List.finRange 7).map Fin.val).countP p.getLsbD := List.countP_map.symm
    _ = (List.range 7).countP p.getLsbD := by rw [List.map_coe_finRange_eq_range]

/-! ## The cell-order mux (R124) -/

theorem cellsel_of_normal (s : State) (h : s.inverted = false) (k : Fin 4) : cellsel s k = s.cell[k.val] := by
  simp [cellsel, h]

theorem cellsel_of_inverted (s : State) (h : s.inverted = true) (k : Fin 4) : cellsel s k = s.cell[3 - k.val] := by
  simp [cellsel, h]

/-! ## The statements -/

/-- Settles O38: each law is the law of `permute` at the table that the orientation selects. -/
theorem remapBijectionLaws : Obligations.RemapBijectionLaws :=
  ⟨fun _ => ⟨rfl, rfl⟩, fun rom o h =>
    ⟨unpermute_getLsbD (permOf rom o), unpermute_permute h, permute_unpermute h, permute_blank h, permute_sentinel h,
      permute_popcount h, permute_or h, permute_and h, permute_singleBit h⟩⟩

/-- Settles O39: the mux at each of the four positions, in either orientation. -/
theorem cellOrderMux : Obligations.CellOrderMux := by
  intro s a b c d hcell
  constructor
  · intro hnormal
    simp [cellsel_of_normal s hnormal, hcell]
  · intro hinverted
    simp [cellsel_of_inverted s hinverted, hcell]

end Sys2Proof.Machine
end

section
/-! The family 42_print.md: CLEAR, PBEGIN, the branches of PCHAR and PEND, each past its guard (R141 to R148). -/

namespace Sys2Proof.Machine

/-! ## The cursor -/

theorem eq_startCursor_iff (cursor : BitVec 3) (start : BitVec 2) :
    cursor = startCursor start ↔ cursor.toNat = start.toNat := by
  rw [startCursor]
  constructor <;> intro <;> bv_omega

/-- Past the start position the borrowed cell and the advance cancel out (R143). -/
theorem advance_borrowCell_of_ne_start {cursor : BitVec 3} {start : BitVec 2} (h : cursor.toNat ≠ start.toNat) :
    advanceCursor (borrowCell cursor start) = cursor := by
  rw [advance_borrowCell, if_neg (mt (eq_startCursor_iff cursor start).mp h)]

/-- The start position is below 4, so the advance from it does not wrap (R143). -/
theorem advance_borrowCell_of_eq_start {cursor : BitVec 3} {start : BitVec 2} (h : cursor.toNat = start.toNat) :
    (advanceCursor (borrowCell cursor start)).toNat = start.toNat + 1 := by
  rw [advance_borrowCell, if_pos ((eq_startCursor_iff cursor start).mpr h)]
  bv_omega

theorem advanceCursor_toNat_of_lt {cursor : BitVec 3} (h : cursor.toNat < 4) :
    (advanceCursor cursor).toNat = cursor.toNat + 1 := by
  rw [advanceCursor]
  bv_omega

/-- Where the cursor is not below the start position, the count takes it from the one to the other (R147). -/
theorem start_add_printCount {cursor : BitVec 3} {start : BitVec 2} (h : start.toNat ≤ cursor.toNat) :
    start.toNat + printCount cursor start = cursor.toNat := Nat.add_sub_cancel' h

/-! ## The sentinel in either orientation -/

theorem Rom.legal.isBijection_permOf {rom : Rom} (h : rom.legal) (inverted : Bool) :
    isBijection (permOf rom inverted) = true := by
  obtain ⟨hnormal, hinverted, _⟩ := h
  cases inverted with
  | false => exact hnormal
  | true => exact hinverted

/-- On legal ROMs an unsupported character lights all seven segments (R25, R103, R122). -/
theorem remap_encodeGlyph_of_unsupported {rom : Rom} (hrom : rom.legal) (inverted : Bool) {c : Byte}
    (hu : (encodeGlyph rom c).1 = true) : remap rom inverted (encodeGlyph rom c).2 = 0x7F := by
  have ⟨_, _, _, hsentinels, _⟩ := hrom
  rw [encodeGlyph_eq_sentinel_of_unsupported hsentinels hu]
  exact permute_sentinel (hrom.isBijection_permOf inverted)

/-! ## PCHAR and PEND past their guard -/

theorem State.printChar_of_stopped {s : State} {c : Byte} (hr : ¬ rejectsCode s.rom c) (hs : s.stopped = some true) :
    s.printChar c = s := by
  rw [State.printChar, if_neg hr, hs]
  rfl

/-- A print that goes on processes each character its policy accepts (R142). -/
theorem exec_pchar_of_accepted {s : State} {c : Byte} (hphase : s.phase = .run) (hprint : s.inPrint = true)
    (hc : s.rom.accepts c) (hs : s.stopped = some false) : exec (.pchar c) s = .next (s.processChar c) := by
  rw [exec_pchar_of_printing s c hphase hprint, s.printChar_of_going c (not_rejectsCode hc) hs]

theorem State.finishPrint_of_registers {s : State} {cursor : BitVec 3} {start : BitVec 2}
    (hc : s.cursor = some cursor) (hs : s.start = some start) :
    s.finishPrint = s.endPrint (printCount cursor start) := by
  rw [State.finishPrint, hc, State.reading_some, hs, State.reading_some]

/-! ## The statements -/

/-- Settles O28: a blank buffer blanks to itself. -/
theorem clearBlanksBuffer : Obligations.ClearBlanksBuffer := by
  intro s hphase hprint
  have hclear := exec_clear_of_running hphase hprint
  have hagain : exec .clear s.clearBuffer = .next s.clearBuffer := exec_clear_of_running hphase hprint
  exact ⟨hclear, by rw [execAll_cons hclear, execAll_cons hagain, execAll_cons hclear]⟩

/-- Settles O29: the cursor is the start position, zero-extended. -/
theorem pbeginBeginsPrint : Obligations.PbeginBeginsPrint := fun p _ hphase hprint =>
  ⟨startCursor p, (eq_startCursor_iff _ p).mp rfl, exec_pbegin_of_running p hphase hprint⟩

/-- Settles O30: the colon is in the glyph range, so either policy accepts it. -/
theorem pcharColonBranch : Obligations.PcharColonBranch := by
  intro s cursor start hphase hprint hstopped hcursor hstart
  refine ⟨advanceCursor (borrowCell cursor start), advance_borrowCell_of_ne_start, advance_borrowCell_of_eq_start, ?_⟩
  have hexec := exec_pchar_of_accepted (c := colonChar) hphase hprint (.inr (by decide)) hstopped
  rw [s.processChar_colon cursor start hcursor hstart, State.warnGlyph_eq] at hexec
  exact hexec

/-- Settles O31: the byte stored is the character's glyph byte. -/
theorem pcharWriteBranch : Obligations.PcharWriteBranch := by
  intro c s cursor h hphase hprint hc hstopped hcursor hcolon
  refine ⟨advanceCursor cursor, advanceCursor_toNat_of_lt h,
    fun hrom => remap_encodeGlyph_of_unsupported hrom s.inverted, ?_⟩
  rw [exec_pchar_of_accepted hphase hprint hc hstopped, s.processChar_write c cursor hcursor hcolon h,
    State.warnGlyph_eq]
  rfl

/-- Settles O32: the warning comes before the overflow event (R238). -/
theorem pcharOverflowBranch : Obligations.PcharOverflowBranch := by
  intro c s cursor h hphase hprint hc hstopped hcursor hcolon
  rw [exec_pchar_of_accepted hphase hprint hc hstopped,
    s.processChar_overflow c cursor hcursor hcolon (Nat.not_lt.mpr h), State.warnGlyph_eq]
  rfl

/-- Settles O33: past its guard and the policy, PCHAR looks at `stopped` before the character. -/
theorem pcharAfterOverflow : Obligations.PcharAfterOverflow := by
  intro c s hphase hprint hc hstopped
  rw [exec_pchar_of_printing s c hphase hprint, State.printChar_of_stopped (not_rejectsCode hc) hstopped]

/-- Settles O34: inside a print the cursor is between the start position and 4 (R150). -/
theorem pendReturnsCount : Obligations.PendReturnsCount := by
  intro s cursor start hphase hprint hcursor hstart hrange
  obtain ⟨start', hstart', hle, hge⟩ := hrange.exists_start hprint hcursor
  obtain rfl : start = start' := Option.some.inj (hstart.symm.trans hstart')
  have hcount := start_add_printCount hle
  refine ⟨printCount cursor start, by omega, hcount, ?_⟩
  rw [exec_pend_of_printing s hphase hprint, State.finishPrint_of_registers hcursor hstart]
  rfl

end Sys2Proof.Machine
end

section
/-! The family 43_render.md: the frame RENDER hands to the transport (R170 to R175) and what a second RENDER sends
(R176). -/

namespace Sys2Proof.Machine

/-! ## What sending leaves unchanged -/

/-- Sending writes the two histories and takes answers, and nothing else of the state (R56). -/
theorem State.emitAll_frame (s : State) (rs : List Request) :
    s.emitAll rs = { s with
      reqs := (s.emitAll rs).reqs
      events := (s.emitAll rs).events
      answers := (s.emitAll rs).answers
      draws := (s.emitAll rs).draws } := by
  induction rs generalizing s with
  | nil => rfl
  | cons r rs ih => exact ih (s.emit r)

/-- After a list of requests the answers go on where it stopped (R56). -/
theorem State.answerAt_emitAll (s : State) (rs : List Request) (k : Nat) :
    (s.emitAll rs).answerAt k = s.answerAt (rs.length + k) := by
  rw [State.answerAt, State.answerAt, State.emitAll_answers, State.emitAll_draws, List.getElem?_drop, Nat.add_assoc]

/-! ## The frame -/

/-- The frame in the device's bytes: the cells through the mux, the colon byte, the dimming byte (R171 to R174). -/
theorem frameRequests_eq (s : State) (level : BitVec 4) :
    frameRequests s level =
      [.wr 0x00 (if s.inverted then s.cell[3] else s.cell[0]),
       .wr 0x02 (if s.inverted then s.cell[2] else s.cell[1]),
       .wr 0x06 (if s.inverted then s.cell[1] else s.cell[2]),
       .wr 0x08 (if s.inverted then s.cell[0] else s.cell[3]),
       .wr 0x04 (if s.colon then s.rom.colonOn else 0x00),
       .cmd (0xE0 ||| level.setWidth 8), .rd (0xE0 ||| level.setWidth 8)] := rfl

/-- The frame is read off elements that sending does not write (R176). -/
theorem frameRequests_emitAll (s : State) (rs : List Request) (level : BitVec 4) :
    frameRequests (s.emitAll rs) level = frameRequests s level := by
  rw [s.emitAll_frame rs]
  rfl

theorem exec_render_of_level {s : State} {level : BitVec 4} (hphase : s.phase = .run) (hprint : s.inPrint = false)
    (hlevel : s.level = some level) : exec .render s = .next (s.emitAll (frameRequests s level)) := by
  rw [exec_render_of_running s hphase hprint, s.sendFrame_of_level hlevel]

/-! ## The statements -/

/-- Settles O40: past its guard RENDER sends the frame, and sending touches nothing else. -/
theorem renderHandsFrame : Obligations.RenderHandsFrame := by
  intro s level hphase hprint hlevel
  refine ⟨_, exec_render_of_level hphase hprint hlevel, s.emitAll_frame _, _, ?_, ?_, s.emitAll_reqs _,
    s.emitAll_events _⟩
  · rw [List.map_fst_zip (s.oks_length _).ge, frameRequests_eq]
  · rw [List.map_snd_zip (s.oks_length _).le]
    rfl

/-- Settles O42: the first frame changes nothing that a frame is read off, so the second one is the same list, with the
seven answers that follow. -/
theorem renderTwiceSameRequests : Obligations.RenderTwiceSameRequests := by
  intro s level hphase hprint hlevel
  have hagain := exec_render_of_level (s := s.emitAll (frameRequests s level)) (by simpa) (by simpa) (by simpa)
  rw [frameRequests_emitAll] at hagain
  refine ⟨_, _, exec_render_of_level hphase hprint hlevel, hagain, _, _, ?_, s.emitAll_reqs _,
    State.emitAll_reqs _ _, ?_, by simp [frameRequests], ?_⟩
  · have hframe := s.emitAll_frame (frameRequests s level)
    rwa [State.emitAll_answers, State.emitAll_draws] at hframe
  · rw [List.map_fst_zip (State.oks_length _ _).ge, List.map_fst_zip (State.oks_length _ _).ge]
  · rw [List.map_snd_zip (State.oks_length _ _).le, State.oks]
    simp only [State.answerAt_emitAll]
    rfl

end Sys2Proof.Machine
end

section
/-! The family 44_intensity.md: AUTOEN and SETINT (R190, R191), the scan of ASTEP by its last satisfied entry (R192, R195),
its comparison (R193, R194) and what is derived from them (R197, R198). -/

namespace Sys2Proof.Machine

/-! ## The scan -/

@[simp] theorem scanLevels_nil (guard : Rat) (v : EffSignal) : scanLevels guard v [] = 0 := rfl

/-- The last entry overwrites what the entries before it gave, if it is satisfied (R195). -/
@[simp] theorem scanLevels_concat (guard : Rat) (v : EffSignal) (table : List (Rat × BitVec 4)) (e : Rat × BitVec 4) :
    scanLevels guard v (table ++ [e]) = if satisfies guard v e.1 then e.2 else scanLevels guard v table :=
  List.foldl_concat _ _ _ _

section
variable {guard : Rat} {v w : EffSignal} {table : List (Rat × BitVec 4)}

theorem scanLevels_eq_zero (h : ∀ e ∈ table, ¬ satisfies guard v e.1) : scanLevels guard v table = 0 := by
  induction table using List.reverseRecOn with
  | nil => rfl
  | append_singleton table e ih =>
    rw [scanLevels_concat, if_neg (h e (by simp))]
    exact ih fun d hd => h d (List.mem_append_left _ hd)

theorem scanLevels_of_last {j : Nat} {e : Rat × BitVec 4} (hj : table[j]? = some e) (hsat : satisfies guard v e.1)
    (hlast : ∀ (k : Nat) (d : Rat × BitVec 4), j < k → table[k]? = some d → ¬ satisfies guard v d.1) :
    scanLevels guard v table = e.2 := by
  induction table using List.reverseRecOn with
  | nil => simp at hj
  | append_singleton table d ih =>
    have hlt : j < (table ++ [d]).length := (List.getElem?_eq_some_iff.mp hj).1
    rw [List.length_append, List.length_singleton, Nat.lt_succ_iff_lt_or_eq] at hlt
    rcases hlt with hlt | rfl
    · rw [scanLevels_concat, if_neg (hlast table.length d hlt List.getElem?_concat_length)]
      refine ih (by rwa [List.getElem?_append_left hlt] at hj) fun k c hk hc => hlast k c hk ?_
      rwa [List.getElem?_append_left (List.getElem?_eq_some_iff.mp hc).1]
    · obtain rfl : d = e := by simpa using hj
      rw [scanLevels_concat, if_pos hsat]

theorem scanLevels_le {b : Nat} (h : ∀ e ∈ table, e.2.toNat ≤ b) : (scanLevels guard v table).toNat ≤ b := by
  induction table using List.reverseRecOn with
  | nil => exact Nat.zero_le b
  | append_singleton table e ih =>
    rw [scanLevels_concat]
    split
    · exact h e (by simp)
    · exact ih fun d hd => h d (List.mem_append_left _ hd)

/-- A signal that satisfies more entries reaches as far into the table or farther, where the levels are no lower. -/
theorem scanLevels_mono (hlvl : table.Pairwise fun d e => d.2.toNat ≤ e.2.toNat)
    (hsat : ∀ t, satisfies guard v t → satisfies guard w t) :
    (scanLevels guard v table).toNat ≤ (scanLevels guard w table).toNat := by
  induction table using List.reverseRecOn with
  | nil => exact le_rfl
  | append_singleton table e ih =>
    obtain ⟨hbefore, -, hle⟩ := List.pairwise_append.mp hlvl
    rw [scanLevels_concat, scanLevels_concat]
    by_cases hw : satisfies guard w e.1
    · rw [if_pos hw]
      split
      · exact le_rfl
      · exact scanLevels_le fun d hd => hle d hd e (List.mem_singleton_self e)
    · rw [if_neg hw, if_neg (mt (hsat e.1) hw)]
      exact ih hbefore

/-- Above every threshold the scan ends at the last entry (R197). -/
theorem scanLevels_posInf : scanLevels guard .posInf table = (table.map Prod.snd).getLast?.getD 0 := by
  induction table using List.reverseRecOn with
  | nil => rfl
  | append_singleton table e _ => simp [satisfies]

end

/-! ## The comparison (R194) -/

theorem satisfies_fin_iff (guard q t : Rat) : satisfies guard (.fin q) t = true ↔ t * guard < q := decide_eq_true_iff

theorem satisfies_fin_mono {guard q r t : Rat} (hqr : q ≤ r) (h : satisfies guard (.fin q) t) :
    satisfies guard (.fin r) t :=
  (satisfies_fin_iff guard r t).mpr (((satisfies_fin_iff guard q t).mp h).trans_le hqr)

theorem guarded_lt_self {t : Rat} (h : t < 0) : t * (103 / 100) < t := by linarith

/-! ## ASTEP with auto mode on -/

/-- ASTEP stores the level of the signal and logs the mismatch, and nothing else (R192, R193). -/
theorem exec_astep_of_samples {s : State} (hphase : s.phase = .run) (hprint : s.inPrint = false)
    (hauto : s.autoEn = true) (hsig : s.rom.samples s.sig) :
    exec .astep s = .next { s with
      level := some (nextLevel s.rom s.sig), events := s.events ++ mismatchOf s.sig } := by
  rw [exec_astep_of_running s hphase hprint, if_pos hauto, State.autoStep, if_neg (not_holdsLevel hsig),
    State.logMismatch_eq]
  rfl

theorem nextLevel_eq_zero {s : State} (h : ∀ t ∈ s.rom.thr, ¬ s.exceeds t) : nextLevel s.rom s.sig = 0 :=
  scanLevels_eq_zero fun e he => mt (satisfies_effective_iff s e.1).mp (h e.1 (List.of_mem_zip he).1)

theorem getElem?_lvl_of_last_exceeded {s : State} (hlen : s.rom.thr.length = s.rom.lvl.length) {j : Nat} {t : Rat}
    (hj : s.rom.thr[j]? = some t) (ht : s.exceeds t)
    (hlast : ∀ (k : Nat) (u : Rat), j < k → s.rom.thr[k]? = some u → ¬ s.exceeds u) :
    s.rom.lvl[j]? = some (nextLevel s.rom s.sig) := by
  have hlt : j < s.rom.lvl.length := hlen ▸ (List.getElem?_eq_some_iff.mp hj).1
  have hlvl : s.rom.lvl[j]? = some s.rom.lvl[j] := List.getElem?_eq_getElem hlt
  have hscan : nextLevel s.rom s.sig = s.rom.lvl[j] :=
    scanLevels_of_last (e := (t, s.rom.lvl[j])) (List.getElem?_zip_eq_some.mpr ⟨hj, hlvl⟩)
      ((satisfies_effective_iff s t).mpr ht)
      fun k d hk hd => mt (satisfies_effective_iff s d.1).mp (hlast k d.1 hk (List.getElem?_zip_eq_some.mp hd).1)
  rw [hscan, hlvl]

/-! ## The corner cases (R197) -/

theorem nextLevel_of_no_threshold {rom : Rom} (h : rom.thr = []) (v : Signal) : nextLevel rom v = 0 := by
  rw [nextLevel, h, List.zip_nil_left, scanLevels_nil]

theorem nextLevel_of_satisfied_last {rom : Rom} {ts : List Rat} {ls : List (BitVec 4)} {t : Rat} {l : BitVec 4}
    {v : Signal} (hlen : ts.length = ls.length) (hthr : rom.thr = ts ++ [t]) (hlvl : rom.lvl = ls ++ [l])
    (h : satisfies rom.guard (effective v) t = true) : nextLevel rom v = l := by
  have hzip : rom.thr.zip rom.lvl = ts.zip ls ++ [(t, l)] := by rw [hthr, hlvl, List.zip_append hlen]; rfl
  rw [nextLevel, hzip, scanLevels_concat, if_pos h]

theorem nextLevel_posInf {rom : Rom} (hlen : rom.thr.length = rom.lvl.length) :
    nextLevel rom .posInf = rom.lvl.getLast?.getD 0 := by
  rw [nextLevel, effective, scanLevels_posInf, List.map_snd_zip hlen.ge]

theorem nextLevel_negInf (rom : Rom) : nextLevel rom .negInf = 0 :=
  scanLevels_eq_zero fun _ _ => Bool.false_ne_true

/-! ## The statements -/

/-- Settles O20: the guard lets AUTOEN through in CONFIG. -/
theorem autoenEnablesAuto : Obligations.AutoenEnablesAuto := by
  intro s hphase
  rw [exec_autoen, s.inConfig_of _ hphase]
  rfl

/-- Settles O21: the minimum is below 16, so no bit of it is lost. -/
theorem setintClampsLevel : Obligations.SetintClampsLevel := by
  intro n s hprint
  have hclamp : (clampOperand n).toNat = min n.toNat 15 := Nat.mod_eq_of_lt (by omega)
  refine ⟨clampOperand n, hclamp, ?_⟩
  rw [exec_setint, s.outsidePrint_of _ hprint]
  rfl

/-- Settles O22: ASTEP looks at `auto_en` before it samples. -/
theorem astepInertWhenDisabled : Obligations.AstepInertWhenDisabled := by
  intro s hphase hprint hauto
  rw [exec_astep_of_running s hphase hprint, hauto, if_neg Bool.false_ne_true]

/-- Settles O23: the level is the scan's, which is that of the last threshold the signal exceeds. -/
theorem astepStoresLastSatisfied : Obligations.AstepStoresLastSatisfied :=
  fun s hphase hprint hauto hsig hlen =>
    ⟨nextLevel s.rom s.sig, exec_astep_of_samples hphase hprint hauto hsig, nextLevel_eq_zero,
      fun _ _ => getElem?_lvl_of_last_exceeded hlen⟩

/-- Settles O25: the finite case is the comparison itself. -/
theorem satisfactionIsStrict : Obligations.SatisfactionIsStrict :=
  fun t => ⟨fun q => satisfies_fin_iff _ q t, rfl, rfl⟩

/-- Settles O26, one part for each point of R197; R193 is the table of `effective`. -/
theorem astepCornerCases : Obligations.AstepCornerCases := by
  refine ⟨⟨rfl, rfl, rfl, rfl, fun _ => rfl⟩, ?_, fun _ => nextLevel_of_no_threshold,
    fun _ _ _ _ _ _ => nextLevel_of_satisfied_last, ?_, ?_, fun rom h => ⟨nextLevel_posInf h, nextLevel_negInf rom⟩⟩
  · intro s l hphase hprint hauto hsig _
    exact ⟨_, _, exec_astep_of_samples hphase hprint hauto hsig,
      exec_astep_of_samples (s := { s with level := l }) hphase hprint hauto hsig, rfl, rfl⟩
  · intro t ht
    have hguard := guarded_lt_self ht
    have hzero : satisfies (103 / 100) (.fin 0) t = true := (satisfies_fin_iff _ 0 t).mpr (hguard.trans ht)
    exact ⟨hguard, hzero, hzero⟩
  · intro guard
    exact decide_eq_false (by rw [zero_mul]; exact lt_irrefl 0)

/-- Settles O27: a larger signal satisfies every entry that a smaller one does. -/
theorem levelGrowsWithSignal : Obligations.LevelGrowsWithSignal := by
  intro rom q r _ hlen _ hlvl hqr
  have htable : (rom.thr.zip rom.lvl).Pairwise fun d e => d.2.toNat ≤ e.2.toNat := by
    rwa [← List.map_snd_zip hlen.ge, List.pairwise_map] at hlvl
  exact scanLevels_mono htable fun _ => satisfies_fin_mono hqr

end Sys2Proof.Machine
end

section
/-! The family 45_control.md: the legality table with what each command does where the table lets it (R212, R236), the
faults left in a run (R237), SETUP and SETINV (R210, R211). -/

namespace Sys2Proof.Machine

/-! ## The guards as rows of the legality table (R212) -/

section
variable (s : State) (f : State → State) {row : Phase → Bool → Option Refusal}

theorem State.inConfig_eq_row (hyes : ∀ b, row .config b = none) (hno : ∀ b, row .run b = some .phase) :
    s.inConfig f = (row s.phase s.inPrint).elim (f s) fun r => s.refuse r := by
  rcases s.inConfig_cases f with ⟨hphase, e⟩ | ⟨hphase, e⟩
  · rw [e, hphase, hyes, Option.elim_none]
  · rw [e, hphase, hno, Option.elim_some]

theorem State.outsidePrint_eq_row (hyes : ∀ p, row p false = none) (hno : ∀ p, row p true = some .protocol) :
    s.outsidePrint f = (row s.phase s.inPrint).elim (f s) fun r => s.refuse r := by
  rcases s.outsidePrint_cases f with ⟨hprint, e⟩ | ⟨hprint, e⟩
  · rw [e, hprint, hyes, Option.elim_none]
  · rw [e, hprint, hno, Option.elim_some]

theorem State.inRun_eq_row (hyes : row .run false = none) (hprinting : ∀ p, row p true = some .protocol)
    (hconfig : ∀ b, row .config b = some .protocol) :
    s.inRun f = (row s.phase s.inPrint).elim (f s) fun r => s.refuse r := by
  rcases s.inRun_cases f with ⟨hphase, hprint, e⟩ | ⟨hphase | hprint, e⟩
  · rw [e, hphase, hprint, hyes, Option.elim_none]
  · rw [e, hphase, hconfig, Option.elim_some]
  · rw [e, hprint, hprinting, Option.elim_some]

theorem State.inPrinting_eq_row (hyes : row .run true = none) (houtside : ∀ p, row p false = some .protocol)
    (hconfig : ∀ b, row .config b = some .protocol) :
    s.inPrinting f = (row s.phase s.inPrint).elim (f s) fun r => s.refuse r := by
  rcases s.inPrinting_cases f with ⟨hphase, hprint, e⟩ | ⟨hphase | hprint, e⟩
  · rw [e, hphase, hprint, hyes, Option.elim_none]
  · rw [e, hphase, hconfig, Option.elim_some]
  · rw [e, hprint, houtside, Option.elim_some]

end

/-- What a command does in a state its guard lets through. -/
def State.effect (s : State) : Instr → State
  | .setup => (s.emitAll setupRequests).enterRun
  | .setinv b => s.setInverted b
  | .autoen => s.enableAuto
  | .setint n => s.setLevel (clampOperand n)
  | .clear => s.clearBuffer
  | .pbegin p => s.beginPrint p
  | .pchar c => s.printChar c
  | .pend => s.finishPrint
  | .render => s.sendFrame
  | .astep => if s.autoEn then s.autoStep else s

/-- A command has its effect where the table says yes, and is refused with the table's reason elsewhere (R212). -/
theorem exec_eq_table (i : Instr) (s : State) :
    exec i s = .next ((legality i s.phase s.inPrint).elim (s.effect i) fun r => s.refuse r) := by
  cases i with
  | setup | setinv | autoen =>
    exact congrArg Host.Outcome.next (s.inConfig_eq_row _ (fun _ => rfl) fun _ => rfl)
  | setint => exact congrArg Host.Outcome.next (s.outsidePrint_eq_row _ (fun _ => rfl) fun _ => rfl)
  | clear | pbegin | render | astep =>
    exact congrArg Host.Outcome.next (s.inRun_eq_row _ rfl (fun p => by cases p <;> rfl) fun _ => rfl)
  | pchar | pend =>
    exact congrArg Host.Outcome.next (s.inPrinting_eq_row _ rfl (fun p => by cases p <;> rfl) fun _ => rfl)

/-! ## No effect is a refusal -/

/-- Past its guard only the reject policy refuses PCHAR (R6). -/
theorem State.printChar_keeps_refusals {s : State} {c : Byte} (hc : s.rom.accepts c) :
    (s.printChar c).refused = s.refused ∧ (s.printChar c).refusals = s.refusals := by
  rcases s.printChar_cases c with ⟨hr, _⟩ | ⟨_, e, _⟩ | ⟨_, _, e⟩ | ⟨_, _, _, _, _, _, _, e⟩ | ⟨_, _, _, _, _, _, e⟩ |
    ⟨_, _, _, _, _, _, e⟩
  · exact absurd hr (not_rejectsCode hc)
  all_goals rw [e]; simp

theorem State.finishPrint_keeps_refusals (s : State) :
    s.finishPrint.refused = s.refused ∧ s.finishPrint.refusals = s.refusals := by
  rcases s.finishPrint_cases with ⟨_, e⟩ | ⟨_, _, _, _, e⟩ <;> rw [e] <;> exact ⟨rfl, rfl⟩

theorem State.sendFrame_keeps_refusals (s : State) :
    s.sendFrame.refused = s.refused ∧ s.sendFrame.refusals = s.refusals := by
  rcases s.sendFrame_cases with ⟨_, e⟩ | ⟨_, _, e⟩ <;> rw [e] <;> simp

theorem State.autoStep_keeps_refusals (s : State) :
    s.autoStep.refused = s.refused ∧ s.autoStep.refusals = s.refusals := by
  rcases s.autoStep_cases with ⟨_, e⟩ | ⟨_, e⟩ <;> rw [e] <;> simp

theorem State.effect_keeps_refusals (s : State) (i : Instr) (hc : ∀ c, i = .pchar c → s.rom.accepts c) :
    (s.effect i).refused = s.refused ∧ (s.effect i).refusals = s.refusals := by
  cases i with
  | setup => simp [State.effect]
  | pchar c => exact State.printChar_keeps_refusals (hc c rfl)
  | pend => exact s.finishPrint_keeps_refusals
  | render => exact s.sendFrame_keeps_refusals
  | astep =>
    rw [State.effect]
    split
    · exact s.autoStep_keeps_refusals
    · exact ⟨rfl, rfl⟩
  | setinv | autoen | setint | clear | pbegin => exact ⟨rfl, rfl⟩

/-! ## No fault inside a print in range (R237) -/

theorem PrintRange.printChar_faulted {s : State} (h : PrintRange s) (hprint : s.inPrint = true) (c : Byte) :
    (s.printChar c).faulted = s.faulted := by
  obtain ⟨start, cursor, stopped, hstart, hcursor, hstopped, _⟩ := h hprint
  rcases s.printChar_cases c with ⟨_, e⟩ | ⟨_, _, hunset⟩ | ⟨_, _, e⟩ | ⟨_, _, _, _, _, _, _, e⟩ |
    ⟨_, _, _, _, _, _, e⟩ | ⟨_, _, _, _, _, _, e⟩
  case inr.inl => simp [hstart, hcursor, hstopped] at hunset
  all_goals simp [e]

theorem PrintRange.finishPrint_faulted {s : State} (h : PrintRange s) (hprint : s.inPrint = true) :
    s.finishPrint.faulted = s.faulted := by
  obtain ⟨_, _, _, hstart, hcursor, _⟩ := h hprint
  rw [State.finishPrint_of_registers hcursor hstart, State.endPrint_faulted]

/-! ## The statements -/

/-- Settles O16: a command is its guard and its effect, the guard is the table, and no effect is a refusal. -/
theorem commandLegalityTable : Obligations.CommandLegalityTable := by
  intro i s _
  constructor
  · intro r hr
    rw [exec_eq_table, hr]
    rfl
  · intro hlegal hc
    have hexec : exec i s = .next (s.effect i) := by rw [exec_eq_table, hlegal]; rfl
    exact ⟨s.effect i, hexec, s.effect_keeps_refusals i hc⟩

/-- Settles O58: of the commands that write the mark, PCHAR and PEND find their registers set and only RENDER is left. -/
theorem onlyRenderFaultsInARun : Obligations.OnlyRenderFaultsInARun := by
  intro i s t hs h hne
  obtain ⟨-, -, -, -, -, -, -, -, -, -, -, -, -, -, -, -, hwriters⟩ := onlyItsWritersChangeAnElement i s t h
  rcases hwriters hne with rfl | rfl | ⟨c, rfl⟩
  · rcases exec_render_cases h with ⟨-, -, rfl⟩ | ⟨-, rfl⟩
    · rcases s.sendFrame_cases with ⟨hlevel, e⟩ | ⟨level, -, e⟩
      · exact ⟨rfl, hlevel, e⟩
      · exact absurd (by rw [e, State.emitAll_faulted]) hne
    · exact absurd (s.refuse_faulted _) hne
  · rcases exec_pend_cases h with ⟨-, hprint, rfl⟩ | ⟨-, rfl⟩
    · exact absurd (hs.finishPrint_faulted hprint) hne
    · exact absurd (s.refuse_faulted _) hne
  · rcases exec_pchar_cases h with ⟨-, hprint, rfl⟩ | ⟨-, rfl⟩
    · exact absurd (hs.printChar_faulted hprint c) hne
    · exact absurd (s.refuse_faulted _) hne

/-- Settles O18: past its guard SETUP sends its requests, and beside what sending writes only the phase changes. -/
theorem setupStartsDisplay : Obligations.SetupStartsDisplay := by
  intro s hphase
  have hframe := s.emitAll_frame setupRequests
  rw [State.emitAll_answers, State.emitAll_draws] at hframe
  refine ⟨(s.emitAll setupRequests).enterRun, ?_, congrArg State.enterRun hframe, _, ?_, ?_, s.emitAll_reqs _,
    s.emitAll_events _⟩
  · rw [exec_setup, s.inConfig_of _ hphase]
  · rw [List.map_fst_zip (s.oks_length _).ge]
    rfl
  · rw [List.map_snd_zip (s.oks_length _).le]
    rfl

/-- Settles O19: the guard lets SETINV through in CONFIG. -/
theorem setinvSetsOrientation : Obligations.SetinvSetsOrientation := by
  intro b s hphase
  rw [exec_setinv, s.inConfig_of _ hphase]
  rfl

end Sys2Proof.Machine
end

section
/-! The family 60_exceptions.md: the two marks (R236, R237). No command clears either, and a reset sets the refused one
when its configuration fails the check (R260). -/

namespace Sys2Proof.Machine

/-- The fault mark's half of R237, beside `not_refused_of_exec`: a state with a fault in its past has a fault. -/
theorem not_faulted_of_exec {i : Instr} {s t : State} (h : exec i s = .next t) (ht : t.faulted = none) :
    s.faulted = none := by
  obtain ⟨u, rfl⟩ := exec_eq_withPast h
  exact (Option.or_eq_none_iff.mp ht).2

/-- Settles O50: a command leaves its past with its own entries after it, so a mark that is clear was clear before. -/
theorem marksAreNeverCleared : Obligations.MarksAreNeverCleared := by
  intro i s t h
  constructor
  · intro hs
    exact Bool.eq_true_of_not_eq_false fun ht => Bool.eq_false_iff.mp (not_refused_of_exec h ht) hs
  · exact mt (not_faulted_of_exec h)

theorem State.boot_refused_of_invalid {c : Config} (h : configValid c = false) : (State.boot c).refused = true := by
  simp [State.boot, h]

theorem State.boot_refusals_of_invalid {c : Config} (h : configValid c = false) :
    (State.boot c).refusals = [.configInvalid] := by
  simp [State.boot, h]

/-- Settles O13: the reset leaves the boot of its configuration, which carries the check's answer. -/
theorem resetRefusesBadConfig : Obligations.ResetRefusesBadConfig :=
  fun s c rest h hinvalid =>
    ⟨s.restart c rest, step_of_reset h, State.boot_refused_of_invalid hinvalid, State.boot_refusals_of_invalid hinvalid,
      rfl, rfl, rfl⟩

end Sys2Proof.Machine
end

section
/-! The family 70_reset_and_hazards.md: the step's totality, the dimming latency of an update cycle (R263) and the boot
(R261). -/

namespace Sys2Proof.Machine

/-! ## Every step answers a next state -/

theorem step_of_nothing_presented {s : State} (h : s.inbox = []) : step s = .next s := by
  rw [step, h]

/-- Settles O10: the block waits, restarts, runs the command, which the table makes total, or refuses the word. -/
theorem stepAlwaysAnswersNext : Obligations.StepAlwaysAnswersNext := by
  refine fun s => ⟨?_, step_of_nothing_presented⟩
  cases hin : s.inbox with
  | nil => exact ⟨_, step_of_nothing_presented hin⟩
  | cons input rest =>
    cases input with
    | reset c => exact ⟨_, step_of_reset hin⟩
    | command w sig =>
      cases hw : decode w with
      | ok i => exact ⟨_, (step_of_command hin hw).trans (exec_eq_table i _)⟩
      | error e => exact ⟨_, step_of_error hin hw⟩

/-! ## A frame and a sample, in both orders (R263) -/

/-- What an enabled ASTEP leaves of a signal it samples (R192, R193). -/
def State.sampled (s : State) : State :=
  { s with level := some (nextLevel s.rom s.sig), events := s.events ++ mismatchOf s.sig }

/-- Between two cycles of a run in auto mode: a frame carries this level, and ASTEP samples. -/
structure AutoReady (s : State) (level : BitVec 4) : Prop where
  phase : s.phase = .run
  inPrint : s.inPrint = false
  autoEn : s.autoEn = true
  level : s.level = some level

section
variable {s : State} {level : BitVec 4} (h : AutoReady s level)
include h

theorem AutoReady.emitAll (rs : List Request) : AutoReady (s.emitAll rs) level where
  phase := by simp [h.phase]
  inPrint := by simp [h.inPrint]
  autoEn := by simp [h.autoEn]
  level := by simp [h.level]

theorem AutoReady.sampled : AutoReady s.sampled (nextLevel s.rom s.sig) := ⟨h.phase, h.inPrint, h.autoEn, rfl⟩

/-- CLEAR and the prints touch nothing that ASTEP or a frame's dimming byte is read off. -/
theorem AutoReady.afterPrints {n : Nat} {t : State} (ht : AfterPrints n s t) : AutoReady t level where
  phase := (congrArg State.phase ht.frame).trans h.phase
  inPrint := ht.inPrint
  autoEn := (congrArg State.autoEn ht.frame).trans h.autoEn
  level := (congrArg State.level ht.frame).trans h.level

theorem AutoReady.exec_render : exec .render s = .next (s.emitAll (frameRequests s level)) :=
  exec_render_of_level h.phase h.inPrint h.level

theorem AutoReady.exec_astep (hsig : s.rom.samples s.sig) : exec .astep s = .next s.sampled :=
  exec_astep_of_samples h.phase h.inPrint h.autoEn hsig

/-- RENDER before ASTEP: the frame carries the level from before the sample. -/
theorem AutoReady.execAll_render_astep (hsig : s.rom.samples s.sig) :
    execAll [.render, .astep] s = .next (s.emitAll (frameRequests s level)).sampled := by
  rw [execAll_cons h.exec_render, execAll_cons ((h.emitAll _).exec_astep (by simpa using hsig)), execAll]

/-- ASTEP before RENDER: the frame carries the sampled level. -/
theorem AutoReady.execAll_astep_render (hsig : s.rom.samples s.sig) :
    execAll [.astep, .render] s = .next (s.sampled.emitAll (frameRequests s (nextLevel s.rom s.sig))) := by
  rw [execAll_cons (h.exec_astep hsig), execAll_cons h.sampled.exec_render, execAll]
  rfl

end

theorem State.emitAll_map_fst_reqs (s : State) (rs : List Request) :
    (s.emitAll rs).reqs.map Prod.fst = s.reqs.map Prod.fst ++ rs := by
  rw [State.emitAll_reqs, List.map_append, List.map_fst_zip (s.oks_length _).ge]

/-- A frame is five writes, then the dimming command and its read-back (R174). -/
theorem frameRequests_eq_append_dim (s : State) (level : BitVec 4) :
    ∃ cells, frameRequests s level =
      cells ++ [.cmd (0xE0 ||| level.setWidth 8), .rd (0xE0 ||| level.setWidth 8)] ∧ cells.length = 5 :=
  ⟨[_, _, _, _, _], rfl, rfl⟩

/-! ## Whole cycles -/

/-- From s to t one frame was sent whose dimming byte is that of this level. -/
def SendsFrameAt (level : BitVec 4) (s t : State) : Prop :=
  ∃ cells, t.reqs.map Prod.fst = s.reqs.map Prod.fst ++ cells ++
    [.cmd (0xE0 ||| level.setWidth 8), .rd (0xE0 ||| level.setWidth 8)] ∧ cells.length = 5

/-- The frame that is sent after the prints comes from the state they leave; the history it is appended to is the one
from before them. -/
theorem sendsFrameAt_afterPrints {n : Nat} {s t u v : State} {level : BitVec 4} (ht : AfterPrints n s t)
    (hu : u.reqs = t.reqs) (hv : v.reqs = (u.emitAll (frameRequests t level)).reqs) : SendsFrameAt level s v := by
  obtain ⟨cells, hcells, hlength⟩ := frameRequests_eq_append_dim t level
  refine ⟨cells, ?_, hlength⟩
  rw [hv, State.emitAll_map_fst_reqs, hcells, hu, List.append_assoc, congrArg State.reqs ht.frame]

theorem AfterPrints.rom_eq {n : Nat} {s t : State} (h : AfterPrints n s t) : t.rom = s.rom :=
  (congrArg State.rom h.frame).trans rfl

theorem AfterPrints.sig_eq {n : Nat} {s t : State} (h : AfterPrints n s t) : t.sig = s.sig :=
  (congrArg State.sig h.frame).trans rfl

section
variable {s : State} {level : BitVec 4} {prints : List (BitVec 2 × List Byte)} (h : AutoReady s level)
  (hsig : s.rom.samples s.sig) (hc : ∀ p ∈ prints, ∀ c ∈ p.2, s.rom.accepts c)
include h hsig hc

/-- An update cycle's frame carries the level from before it, and the cycle leaves the sampled level (R78, R263). -/
theorem AutoReady.execAll_expandUpdate : ∃ t, execAll (expandUpdate prints) s = .next t ∧
    AutoReady t (nextLevel s.rom s.sig) ∧ t.rom = s.rom ∧ SendsFrameAt level s t := by
  obtain ⟨u, hprints, hu⟩ := execAll_clear_prints h.phase h.inPrint hc
  have hready : AutoReady u level := h.afterPrints hu
  have hrom := hu.rom_eq
  have husig := hu.sig_eq
  refine ⟨(u.emitAll (frameRequests u level)).sampled, ?_, ?_, ?_, sendsFrameAt_afterPrints hu rfl rfl⟩
  · rw [expandUpdate, ← List.cons_append, execAll_append hprints]
    exact hready.execAll_render_astep (by rwa [hrom, husig])
  · simpa [hrom, husig] using (hready.emitAll (frameRequests u level)).sampled
  · simp [State.sampled, hrom]

/-- A cycle with ASTEP before RENDER sends the sampled level in its own frame (R263). -/
theorem AutoReady.execAll_clear_prints_astep_render :
    ∃ t, execAll ([.clear] ++ prints.flatMap (fun p => expandPrint p.1 p.2) ++ [.astep, .render]) s = .next t ∧
      t.level = some (nextLevel s.rom s.sig) ∧ SendsFrameAt (nextLevel s.rom s.sig) s t := by
  obtain ⟨u, hprints, hu⟩ := execAll_clear_prints h.phase h.inPrint hc
  have hrom := hu.rom_eq
  have husig := hu.sig_eq
  refine ⟨u.sampled.emitAll (frameRequests u (nextLevel s.rom s.sig)), ?_, ?_, sendsFrameAt_afterPrints hu rfl rfl⟩
  · rw [List.singleton_append, execAll_append hprints,
      (h.afterPrints hu).execAll_astep_render (by rwa [hrom, husig]), hrom, husig]
  · simp [State.sampled, hrom, husig]

end

/-- Settles O44: RENDER reads the level that ASTEP then overwrites; the second cycle starts where the first one ends. -/
theorem dimmingLatency : Obligations.DimmingLatency := by
  intro s level hphase hprint hlevel hauto hsig
  have h : AutoReady s level := ⟨hphase, hprint, hauto, hlevel⟩
  refine ⟨?_, ?_, fun prints prints' v hc hv => ?_⟩
  · have hframe := h.emitAll (frameRequests s level)
    have hexec := hframe.execAll_astep_render (by simpa using hsig)
    refine ⟨_, (execAll_cons h.exec_render).trans hexec, by simp [State.sampled], ?_⟩
    rw [State.emitAll_map_fst_reqs, frameRequests_emitAll, State.emitAll_rom, State.emitAll_sig]
    exact congrArg (· ++ _) (s.emitAll_map_fst_reqs _)
  · exact ⟨_, h.execAll_astep_render hsig, by simp [State.sampled], State.emitAll_map_fst_reqs _ _⟩
  · obtain ⟨hprints, hprints'⟩ := List.forall_mem_append.mp hc
    obtain ⟨t, ht, hready, hrom, cells, hreqs, hcells⟩ := h.execAll_expandUpdate hsig hprints
    have hnext : AutoReady { t with sig := v } (nextLevel s.rom s.sig) :=
      ⟨hready.phase, hready.inPrint, hready.autoEn, hready.level⟩
    obtain ⟨u, hu, hready', -, cells', hreqs', hcells'⟩ :=
      hnext.execAll_expandUpdate (prints := prints') (hrom ▸ hv) (hrom ▸ hprints')
    obtain ⟨w, hw, hwlevel, wcells, hwreqs, hwcells⟩ := h.execAll_clear_prints_astep_render hsig hprints
    exact ⟨⟨t, u, cells, cells', ht, hready.level, hreqs, hcells, hu, hrom ▸ hready'.level, hreqs', hcells'⟩,
      w, wcells, hw, hwlevel, hwcells, hwreqs⟩

/-! ## The settings of a boot (R261) -/

/-- The commands that set something before SETUP: SETINV, AUTOEN, SETINT. -/
def IsSetting (i : Instr) : Prop := (∃ b, i = .setinv b) ∨ i = .autoen ∨ ∃ n, i = .setint n

/-- The state with these settings made, the last one last. -/
def State.configured (settings : List Instr) (s : State) : State := settings.foldl State.effect s

theorem State.configured_cons (s : State) (i : Instr) (settings : List Instr) :
    s.configured (i :: settings) = (s.effect i).configured settings := rfl

theorem State.configured_append (s : State) (before after : List Instr) :
    s.configured (before ++ after) = (s.configured before).configured after := List.foldl_append

/-- A setting writes the orientation, the auto enable or the level, and nothing else. -/
theorem State.effect_of_setting {i : Instr} (hi : IsSetting i) (s : State) : s.effect i =
    { s with inverted := (s.effect i).inverted, autoEn := (s.effect i).autoEn, level := (s.effect i).level } := by
  rcases hi with ⟨b, rfl⟩ | rfl | ⟨n, rfl⟩ <;> rfl

theorem State.configured_frame {settings : List Instr} (hset : ∀ i ∈ settings, IsSetting i) (s : State) :
    s.configured settings = { s with
      inverted := (s.configured settings).inverted
      autoEn := (s.configured settings).autoEn
      level := (s.configured settings).level } := by
  induction settings generalizing s with
  | nil => rfl
  | cons i is ih =>
    obtain ⟨hi, his⟩ := List.forall_mem_cons.mp hset
    rw [State.configured_cons, ih his, State.effect_of_setting hi]

/-- The table lets a setting through in CONFIG outside a print (R212). -/
theorem exec_setting {i : Instr} (hi : IsSetting i) {s : State} (hphase : s.phase = .config)
    (hprint : s.inPrint = false) : exec i s = .next (s.effect i) := by
  rw [exec_eq_table, hphase, hprint]
  rcases hi with ⟨b, rfl⟩ | rfl | ⟨n, rfl⟩ <;> rfl

theorem execAll_settings {settings : List Instr} (hset : ∀ i ∈ settings, IsSetting i) {s : State}
    (hphase : s.phase = .config) (hprint : s.inPrint = false) :
    execAll settings s = .next (s.configured settings) := by
  induction settings generalizing s with
  | nil => rfl
  | cons i is ih =>
    obtain ⟨hi, his⟩ := List.forall_mem_cons.mp hset
    have hframe := State.effect_of_setting hi s
    rw [execAll_cons (exec_setting hi hphase hprint), State.configured_cons,
      ih his ((congrArg State.phase hframe).trans hphase) ((congrArg State.inPrint hframe).trans hprint)]

/-- What no command of the list writes, the list leaves. -/
theorem State.configured_keeps {α : Type} {element : State → α} {settings : List Instr}
    (hkeeps : ∀ i ∈ settings, ∀ s : State, element (s.effect i) = element s) (s : State) :
    element (s.configured settings) = element s := by
  induction settings generalizing s with
  | nil => rfl
  | cons i is ih =>
    obtain ⟨hi, his⟩ := List.forall_mem_cons.mp hkeeps
    rw [State.configured_cons, ih his, hi]

theorem State.configured_inverted_of_no_setinv {settings : List Instr} (hset : ∀ i ∈ settings, IsSetting i)
    (hno : ∀ b, .setinv b ∉ settings) (s : State) : (s.configured settings).inverted = s.inverted := by
  refine State.configured_keeps (fun i hi s => ?_) s
  rcases hset i hi with ⟨b, rfl⟩ | rfl | ⟨n, rfl⟩
  · exact absurd hi (hno b)
  · rfl
  · rfl

theorem State.configured_level_of_no_setint {settings : List Instr} (hset : ∀ i ∈ settings, IsSetting i)
    (hno : ∀ n, .setint n ∉ settings) (s : State) : (s.configured settings).level = s.level := by
  refine State.configured_keeps (fun i hi s => ?_) s
  rcases hset i hi with ⟨b, rfl⟩ | rfl | ⟨n, rfl⟩
  · rfl
  · rfl
  · exact absurd hi (hno n)

/-- No setting takes the auto enable back (R32). -/
theorem State.configured_autoEn {settings : List Instr} (hset : ∀ i ∈ settings, IsSetting i) (s : State) :
    (s.configured settings).autoEn = true ↔ s.autoEn = true ∨ .autoen ∈ settings := by
  induction settings generalizing s with
  | nil => simp [State.configured]
  | cons i is ih =>
    obtain ⟨hi, his⟩ := List.forall_mem_cons.mp hset
    rw [State.configured_cons, ih his]
    rcases hi with ⟨b, rfl⟩ | rfl | ⟨n, rfl⟩ <;> simp [State.effect]

theorem clampOperand_toNat (n : BitVec 8) : (clampOperand n).toNat = min n.toNat 15 := Nat.mod_eq_of_lt (by omega)

/-- Settles O59: SETUP sends its requests from the state the settings leave, in which only what they set differs from
the boot; the last of a kind has the effect of its command, which nothing after it overwrites. -/
theorem bootReachesRun : Obligations.BootReachesRun := by
  intro c settings hvalid hset
  have hframe := State.configured_frame hset (State.boot c)
  have hphase : ((State.boot c).configured settings).phase = .config := congrArg State.phase hframe
  have hreqs : ((State.boot c).configured settings).reqs = [] := congrArg State.reqs hframe
  have hrefused : ((State.boot c).configured settings).refused = !configValid c := congrArg State.refused hframe
  have hfaulted : ((State.boot c).configured settings).faulted = none := congrArg State.faulted hframe
  refine ⟨(((State.boot c).configured settings).emitAll setupRequests).enterRun, ?_, rfl, ⟨?_, ?_⟩, ?_, ?_, ?_, ?_, ?_,
    ?_⟩
  · rw [execAll_append (execAll_settings hset rfl rfl)]
    exact execAll_cons (by rw [exec_setup, State.inConfig_of _ _ hphase])
  · simp [hrefused, hvalid]
  · simp [hfaulted]
  · rw [State.enterRun_reqs, State.emitAll_map_fst_reqs, hreqs]
    rfl
  · simp [State.configured_autoEn hset, State.boot]
  · intro hno
    simp [State.configured_inverted_of_no_setinv hset hno, State.boot]
  · rintro before after b rfl hno
    have hafter : ∀ i ∈ after, IsSetting i := fun i hi => hset i (by simp [hi])
    simp [State.configured_append, State.configured_cons, State.configured_inverted_of_no_setinv hafter hno,
      State.effect]
  · intro hno
    simp [State.configured_level_of_no_setint hset hno, State.boot]
  · rintro before after n rfl hno
    have hafter : ∀ i ∈ after, IsSetting i := fun i hi => hset i (by simp [hi])
    refine ⟨clampOperand n, ?_, clampOperand_toNat n⟩
    simp [State.configured_append, State.configured_cons, State.configured_level_of_no_setint hafter hno,
      State.effect]

end Sys2Proof.Machine
end
